-- ==== Sys2Proof/Word.lean ====
section
/-!
DEFINITION. The plain value types of the model: the eight-fold arrays (coils of a tile, stations of a surface),
the named sets of the manual (00 "Naming") and the operands that commands carry.
-/

namespace Sys2Proof

/-- One byte (character) of a frame on the tile bus (R50). -/
abbrev Byte := BitVec 8

/-- Eight of a kind: one value per own coil by local index (R1), or per station number 0..7 (R6). -/
structure Oct (α : Type) where
  c0 : α
  c1 : α
  c2 : α
  c3 : α
  c4 : α
  c5 : α
  c6 : α
  c7 : α
  deriving DecidableEq, Repr

namespace Oct

variable {α β : Type}

/-- The value held for index `i`. -/
def get (o : Oct α) (i : Fin 8) : α :=
  match i.val with
  | 0 => o.c0
  | 1 => o.c1
  | 2 => o.c2
  | 3 => o.c3
  | 4 => o.c4
  | 5 => o.c5
  | 6 => o.c6
  | _ => o.c7

/-- The array whose value at each index is given by `f`. -/
def ofFn (f : Fin 8 → α) : Oct α :=
  { c0 := f 0, c1 := f 1, c2 := f 2, c3 := f 3, c4 := f 4, c5 := f 5, c6 := f 6, c7 := f 7 }

/-- The same value at every index. -/
def all (a : α) : Oct α :=
  { c0 := a, c1 := a, c2 := a, c3 := a, c4 := a, c5 := a, c6 := a, c7 := a }

/-- Replace the value at `i`. -/
def set (o : Oct α) (i : Fin 8) (a : α) : Oct α :=
  ofFn fun j => if j = i then a else o.get j

/-- Apply `f` at every index. -/
def map (f : α → β) (o : Oct α) : Oct β :=
  ofFn fun j => f (o.get j)

end Oct

/-- The indices 0..7 in increasing order. -/
def eight : List (Fin 8) := [0, 1, 2, 3, 4, 5, 6, 7]

/-- Polarity of a zero crossing (R13). -/
inductive Polarity where
  | rising
  | falling
  deriving DecidableEq, Repr

/-- The other polarity. -/
def Polarity.flip : Polarity → Polarity
  | .rising => .falling
  | .falling => .rising

/-- Mains state (R18, R19). -/
inductive Mains where
  | ok
  | lost
  deriving DecidableEq, Repr

/-- Condition of a coil (Table 3-5). -/
inductive Condition where
  | clear
  | covered
  | object
  | opened
  | unfit
  deriving DecidableEq, Repr

/-- Temperature band of a coil (Table 11-3). -/
inductive Band where
  | normal
  | warm
  | hot
  | sensor
  deriving DecidableEq, Repr

/-- Supply circuit (R8). -/
inductive Supply where
  | a
  | b
  deriving DecidableEq, Repr

/-- Reset cause as recorded and reported (Table 1-7). -/
inductive ResetCause where
  | power
  | pin
  deriving DecidableEq, Repr

/-- What puts the part into reset (R10, R11). -/
inductive ResetSource where
  | brownOut
  | resetPin
  | clockUnlocked
  deriving DecidableEq, Repr

/-- Link state (Table 4-6). -/
inductive Link where
  | listen
  | joined
  | isolated
  | conflict
  deriving DecidableEq, Repr

/-- Protection state (Table 11-2). -/
inductive Protection where
  | armed
  | tripped
  | locked
  deriving DecidableEq, Repr

/-- The station's part in a pan (R88). -/
inductive Role where
  | held
  | shared
  | heard
  deriving DecidableEq, Repr

/-- State of a pan record (Table 6-3); GONE is announced, never held (R88). -/
inductive PanState where
  | settling
  | idle
  | heating
  | lifted
  deriving DecidableEq, Repr

/-- State of a group record of the drive unit (Table 10-1). -/
inductive GroupState where
  | waiting
  | started
  | ending
  deriving DecidableEq, Repr

/-- The receiver of the tile bus interface (R50, R53, R54): waiting for an idle line, at an idle line, or receiving a
frame: the rest of one that the station itself began, or one whose start bit it read before it could begin its own. -/
inductive Receiver where
  | waitIdle
  | idle
  | receiving
  deriving DecidableEq, Repr

/-- A span of the half-cycle in progress (R25, R26): still ahead, open, or over. -/
inductive Span where
  | ahead
  | running
  | over
  deriving DecidableEq, Repr

/-- Levels of the eight strap pins (Table 1-4); `true` is high. -/
structure StrapPins where
  tcol1 : Bool
  tcol0 : Bool
  trow0 : Bool
  supply0 : Bool
  budget1 : Bool
  budget0 : Bool
  ctype1 : Bool
  ctype0 : Bool
  deriving DecidableEq, Repr

/-- One ring half-wave after the burst: whether its peak exceeds the ring threshold (R31), and the instant it
begins, in counts of the drive timebase (R32). -/
structure HalfWave where
  above : Bool
  start : Nat
  deriving DecidableEq, Repr

/-- What one struck coil shows in a probe slot: its half-waves in order of arrival up to the close of the slot
(R31, R32), and whether the burst current read below the open threshold (R33). -/
structure ProbeReading where
  waves : List HalfWave
  lowCurrent : Bool
  deriving DecidableEq, Repr

/-- Current of a coil and voltage of the power-stage bus, sampled at one instant (R166), in whole milliamperes and
volts (notes/assumptions/4.md). -/
structure Sample where
  current : Int
  voltage : Int
  deriving DecidableEq, Repr

/-- The parts of a complete received frame beside its class and payload (R51): the source field, the last bit of
the arbitration byte as read, and the two check characters as one number. -/
structure Envelope where
  source : Fin 16
  last : Bool
  check : BitVec 16
  deriving DecidableEq, Repr

/-- The instant at which the station would begin a frame (R50): the time in microseconds since the command before, and
whether it has read another station's start bit since the line became idle. -/
structure StartTime where
  dt : Nat
  heard : Bool
  deriving DecidableEq, Repr

end Sys2Proof
end

