-- ==== Sys2Proof/Syntax.lean ====
section
/-!
DEFINITION. The commands of the part: one constructor per row of spec/opcode_table.json, in the table's order.
`dt` is the time in microseconds since the command before (notes/assumptions/2.md).
`samples` are the samples of current and voltage of each own coil (R166) since the last command that carried samples,
oldest first (notes/assumptions/4.md).
-/

namespace Sys2Proof

/-- A command of the PL416. -/
inductive Instr where
  /-- R11: the part enters reset. -/
  | resetEntry (source : ResetSource)
  /-- R10, R177: the part leaves reset; strap pins, gate-supply monitor and trip input as they read then. -/
  | leaveReset (pins : StrapPins) (gateGood tripActive : Bool)
  /-- R13: an edge of the zero-crossing input. -/
  | zcEdge (dt : Nat) (polarity : Polarity) (samples : Oct (List Sample))
  /-- R16 -/
  | synthesisDeadline (dt : Nat)
  /-- R29 -/
  | probeSlotOpen (dt : Nat)
  /-- R29: readings of the lower and of the higher coil of the pair in flight. -/
  | probeSlotClose (dt : Nat) (lower higher : ProbeReading)
  /-- R45 -/
  | quietTimerEnd (dt : Nat)
  /-- R23 -/
  | valleyGapOpen (dt : Nat)
  /-- R25 -/
  | driveSpanOpen (dt : Nat)
  /-- R25 -/
  | driveSpanClose (dt : Nat) (samples : Oct (List Sample))
  /-- R26 -/
  | trackingSpanOpen (dt : Nat)
  /-- R26 -/
  | trackingSpanClose (dt : Nat)
  /-- R163: the group of `pan` completes a switching period and starts the next; `margins` are those of the
  completed period (R143). -/
  | switchingPeriodStart (dt : Nat) (pan : Nat) (samples : Oct (List Sample)) (margins : Oct Int)
  /-- R175: one reading in whole degrees Celsius per own coil. -/
  | temperatureConversionComplete (dt : Nat) (readings : Oct Int)
  /-- R54 -/
  | frameCut (dt : Nat)
  /-- R119, Table 12-1: class 0. -/
  | allOff (dt : Nat) (env : Envelope)
  /-- R117: class 1. -/
  | level (dt : Nat) (env : Envelope) (payload : Vector Byte 2)
  /-- R109: class 2. -/
  | pan (dt : Nat) (env : Envelope) (payload : Vector Byte 10)
  /-- R74: class 3. -/
  | status (dt : Nat) (env : Envelope) (payload : Vector Byte 35)
  /-- R114: class 4. -/
  | beacon (dt : Nat) (env : Envelope) (payload : Vector Byte 2)
  /-- R50, R60 -/
  | transmitStart (start : StartTime)
  /-- R53 -/
  | transmitSuccess (dt : Nat)
  /-- R53 -/
  | transmitMismatch (dt : Nat)
  /-- R52 -/
  | arbitrationLost (dt : Nat)
  /-- R62 -/
  | reportTick (dt : Nat)
  /-- R63 -/
  | spacingTimerEnd (dt : Nat)
  /-- R65 -/
  | listenTimerEnd (dt : Nat)
  /-- R66 -/
  | silenceTimerEnd (dt : Nat)
  /-- R66 -/
  | transmitStallTimerEnd (dt : Nat)
  /-- R69 -/
  | conflictRepeatTimerEnd (dt : Nat)
  /-- R76 -/
  | stationAgeExpiry (dt : Nat) (station : Fin 8)
  /-- R95 -/
  | trackingPass (dt : Nat) (samples : Oct (List Sample))
  /-- R91 -/
  | settleTimerEnd (dt : Nat) (pan : Nat)
  /-- R94 -/
  | stableTimerEnd (dt : Nat) (pan : Nat)
  /-- R93 -/
  | liftedTimerEnd (dt : Nat) (pan : Nat)
  /-- R90 -/
  | lastHeardAgeExpiry (dt : Nat) (pan : Nat)
  /-- R107 -/
  | panPeriodTimerEnd (dt : Nat) (pan : Nat)
  /-- R107 -/
  | panSpacingTimerEnd (dt : Nat) (pan : Nat)
  /-- R115 -/
  | panelAgeExpiry (dt : Nat)
  /-- R170 -/
  | trip (dt : Nat)
  /-- R172 -/
  | holdTimerEnd (dt : Nat)
  /-- R173 -/
  | gateSupplyFall (dt : Nat)
  /-- R173 -/
  | gateSupplyRise (dt : Nat)
  /-- R120 -/
  | allocationPassEnd (dt : Nat) (samples : Oct (List Sample))
  /-- R50 -/
  | lineIdle (dt : Nat)
  /-- R170 -/
  | tripInputInactive (dt : Nat)
  /-- R10 -/
  | brownOutInReset
  deriving DecidableEq, Repr

end Sys2Proof
end

