-- ==== Sys2Proof/Config.lean ====
section
/-!
DEFINITION. What the manual leaves open and the model does not choose: free values.
-/

namespace Sys2Proof

/-- Orders and alternatives that the manual leaves open, one per occurrence: `true` takes the
first alternative named where it is used. It has no body, so that nothing can be proved of a particular choice.
DESIGN CHOICE (notes/assumptions/5.md), safe. -/
opaque Config.freeOrder : Nat → Bool

end Sys2Proof
end

