-- ==== Sys2Proof/Machine/State.lean ====
section
/-!
DEFINITION. The state of one PL416, block by block as the manual's tables "State held by ..." list it, and the
state right after reset. Everything is plain data. Timers and ages are held as elapsed milliseconds (`none` is
stopped, or never heard), instants as microseconds since leaving reset.
-/

namespace Sys2Proof.Machine

/-- The manual gives no command of this block a fault that stops the part: trips, locks, conflicts and discarded
frames are states (R55, R68, R170). So no step faults, and there is no constructor; safe. -/
inductive Fault where
  deriving DecidableEq, Repr

/-- Why a command has no outcome. -/
inductive Refusal where
  /-- Raised by an arm of `exec` whose command has no meaning yet; safe. No arm raises it now. -/
  | notModelled (mnemonic : String)
  deriving DecidableEq, Repr

/-- The sampled straps (R7, Table 1-4). -/
structure Straps where
  tcol : Fin 4
  trow : Fin 2
  supply : Supply
  budget : Fin 4
  coilType : Fin 4
  deriving DecidableEq, Repr

/-- Mains timing unit (Table 2-1, R22, R27). -/
structure Mtu where
  /-- Instant of the last crossing, or of the reset reference. -/
  last : Nat
  polarity : Polarity
  /-- A crossing has occurred since reset; the reset reference is none (R27). -/
  crossed : Bool
  /-- A real crossing has occurred since reset (R14). -/
  realSeen : Bool
  h : Nat
  synthRun : Nat
  goodRun : Nat
  mains : Mains
  index : Nat
  windowStart : Nat
  drive : Span
  tracking : Span
  /-- The leading part of the valley gap is open (R23). -/
  leading : Bool
  deriving DecidableEq, Repr

/-- The probe in flight (R29): its pair, and whether its burst of eight pulses has been fired. -/
structure Flight where
  pair : Fin 4
  fired : Bool
  deriving DecidableEq, Repr

/-- What the probe unit holds for one coil (Table 3-1). -/
structure CoilProbe where
  discardDone : Bool
  firstResult : Bool
  e : Nat
  tb : Option Nat
  tres : Option Nat
  q : Nat
  pendingRaw : List Nat
  baseRun : Nat
  entryRun : Nat
  exitRun : Nat
  openRun : Nat
  object : Bool
  opened : Bool
  unfit : Bool
  deriving DecidableEq, Repr

/-- Probe unit (Table 3-1). -/
structure Prb where
  /-- Position 0..3 of the pair pointer in Table 3-2. -/
  pointer : Fin 4
  quiet : Bool
  quietTimer : Nat
  quietCount : Nat
  inFlight : Option Flight
  coils : Oct CoilProbe
  deriving DecidableEq, Repr

/-- The extent of a pan's coils (Table 6-2). -/
structure Box where
  colMin : Nat
  colMax : Nat
  rowMin : Nat
  rowMax : Nat
  deriving DecidableEq, Repr

/-- The state field of a PAN frame (Table 12-3). -/
inductive PanCode where
  | live (s : PanState)
  | gone
  deriving DecidableEq, Repr

/-- Content of a PAN frame (R108, Table 12-3). -/
structure PanContent where
  id : Nat
  code : PanCode
  level : Nat
  anchor : Nat
  box : Option Box
  wp : Nat
  ws : Nat
  tp : Nat
  /-- Lifted time remaining, in units of 100 ms. -/
  remaining : Nat
  deriving DecidableEq, Repr

/-- A PAN transmit slot (R58): queued, or waiting behind its frame on the line, content; content on the line. -/
structure PanSlot where
  id : Nat
  queued : Option PanContent
  line : Option PanContent
  deriving DecidableEq, Repr

/-- The own frame on the line (R53): `none` for the STATUS slot or the key of the PAN slot; its characters; and
whether its slot is to be emptied when it ends, however it ends (R61). -/
structure Tx where
  pan : Option Nat
  frame : List Byte
  doomed : Bool
  deriving DecidableEq, Repr

/-- Tile bus interface (Table 4-7). -/
structure Tbi where
  link : Link
  listen : Option Nat
  /-- The listen timer has ended (R65). -/
  listenEnded : Bool
  report : Option Nat
  silence : Nat
  stall : Nat
  heardOther : Bool
  ownSent : Bool
  conflict : Option Nat
  /-- The STATUS slot is queued, or a new STATUS waits behind the one on the line. -/
  statusQueued : Bool
  /-- The occupied PAN slots in contention order (R60). -/
  slots : List PanSlot
  tx : Option Tx
  rx : Receiver
  /-- A PAN request refused for want of a slot is outstanding (R59). -/
  refused : Bool
  spacing : Option Nat
  change : Bool
  seq : Nat
  discards : Nat
  deriving DecidableEq, Repr

/-- Fields of a coil entry (Table 5-2). -/
structure Entry where
  q : Nat
  condition : Condition
  band : Band
  label : Nat
  driving : Bool
  deriving DecidableEq, Repr

/-- Fields of a peer row (Table 5-3). -/
structure PeerRow where
  supply : Supply
  claim : Nat
  demand : Nat
  limit : Option Nat
  want : Option Nat
  /-- The link flag is CONFLICT. -/
  conflict : Bool
  protection : Protection
  mains : Mains
  deriving DecidableEq, Repr

/-- Surface view (Table 5-1). Entries and rows of other stations by station number and local index; the own
entries are those of the owning blocks (R73), and the own station's places here are never written (R74). -/
structure Svw where
  entries : Oct (Oct Entry)
  rows : Oct PeerRow
  ages : Oct (Option Nat)
  fresh : Oct Bool
  deriving DecidableEq, Repr

/-- What a PAN change compares with what was last requested (R106). -/
structure PanFacts where
  state : PanState
  level : Nat
  anchor : Nat
  box : Option Box
  wp : Nat
  ws : Nat
  deriving DecidableEq, Repr

/-- A pan record (Table 6-2), with its PAN timers and marks (Table 6-1) and its pan target (Table 7-1). -/
structure PanRecord where
  id : Nat
  role : Role
  holder : Fin 8
  state : PanState
  level : Nat
  anchor : Nat
  box : Option Box
  wp : Nat
  ws : Nat
  settle : Option Nat
  stable : Option Nat
  lifted : Option Nat
  age : Nat
  withdrawn : Bool
  period : Option Nat
  spacing : Option Nat
  change : Bool
  refused : Bool
  /-- What the station last requested for the pan since it came to hold it (R106). -/
  requested : Option PanFacts
  tp : Option Nat
  /-- T_p as the allocation pass in progress has computed it, to be stored at its end (R120, R121). -/
  tpNext : Option Nat
  deriving DecidableEq, Repr

/-- Pan tracker (Table 6-1). The registry is in increasing pan ID. -/
structure Ptk where
  labels : Oct Nat
  registry : List PanRecord
  seq : Nat
  running : Bool
  further : Bool
  deriving DecidableEq, Repr

/-- A group of the level and allocation unit (Table 7-1). -/
structure Group where
  id : Nat
  members : Oct Bool
  target : Nat
  scaled : Nat
  deriving DecidableEq, Repr

/-- The results of the allocation pass in progress, to take effect at its end (R120). -/
structure Pass where
  groups : List Group
  demand : Nat
  claim : Nat
  /-- An ALL-OFF was taken while the pass was in progress (R120, R125). -/
  allOff : Bool
  /-- The own claim that the review starts from, or none where it takes no branch (R131, R135). -/
  own : Option Nat
  /-- Claim and demand of each station's row as the review reads it; none for a row that it does not count (R131). -/
  peers : Oct (Option (Nat × Nat))
  /-- The rows that the review has read before a STATUS wrote them (R131). -/
  read : Oct Bool
  deriving DecidableEq, Repr

/-- Level and allocation unit (Table 7-1). -/
structure Lau where
  panelAge : Option Nat
  present : Bool
  enable : Bool
  groups : List Group
  demand : Nat
  pass : Option Pass
  deriving DecidableEq, Repr

/-- Budget unit (Table 8-1). -/
structure Bgu where
  claim : Nat
  deriving DecidableEq, Repr

/-- What the frequency unit holds for a drive member (Table 9-1). -/
structure Member where
  l0 : Nat
  l : Nat
  count : Nat
  sum : Int
  negative : Bool
  hard : Nat
  deriving DecidableEq, Repr

/-- Frequency unit (Table 9-1). -/
structure Fqu where
  members : Oct (Option Member)
  limit : Option Nat
  want : Option Nat
  s : Nat
  sApp : Nat
  deriving DecidableEq, Repr

/-- The gate edges of a switching period, in counts after its start (R164). -/
structure GateTiming where
  highOn : Nat
  highOff : Nat
  lowOn : Nat
  lowOff : Nat
  deriving DecidableEq, Repr

/-- A group record of the drive unit (Table 10-1). The master is its lowest member (R158). -/
structure GroupRecord where
  id : Nat
  state : GroupState
  members : Oct Bool
  target : Nat
  n : Nat
  offset : Nat
  offsetPending : Option Nat
  /-- Window energy sum, whole mJ. -/
  sum : Int
  /-- The half-cycle in progress was decided ON for the group (R162). -/
  on : Bool
  /-- The switching period in progress, in counts (R163). -/
  period : Option Nat
  /-- The instant, in counts of the drive timebase, at which the last switching period started (R163). -/
  begun : Nat
  /-- The instant at which the record became ENDING (R159). -/
  endedAt : Option Nat
  deriving DecidableEq, Repr

/-- What the drive unit holds for one coil (Table 10-1, R143, R166). -/
structure CoilDrive where
  /-- Gate state: `none` is both gates low, otherwise the edges of the period in progress. -/
  gates : Option GateTiming
  /-- The coil takes part in the switching period in progress, or did until the valley gap cut it. -/
  inPeriod : Bool
  /-- That period began inside the tracking span (R143). -/
  tracked : Bool
  /-- Completed periods the coil has switched in this half-cycle (R143). -/
  periods : Nat
  /-- Length of the period the coil last started, in counts, and how many of its samples are taken (R166). -/
  len : Nat
  sampled : Nat
  /-- Energy accumulated in this half-cycle, in units of 1 mA × 1 V × 1/16 count (R166). -/
  acc : Int
  /-- Half-cycle energy, whole mJ (R166). -/
  energy : Int
  stopped : Bool
  driving : Bool
  deriving DecidableEq, Repr

/-- Drive unit (Table 10-1). -/
structure Drv where
  records : List GroupRecord
  coils : Oct CoilDrive
  deriving DecidableEq, Repr

/-- Protection unit (Table 11-1). -/
structure Prt where
  state : Protection
  hold : Option Nat
  sinceTrip : Option Nat
  gateGood : Bool
  /-- The trip input is active (R170). -/
  tripInput : Bool
  readings : Oct (Option Int)
  bands : Oct Band
  /-- Start instant of the conversion in progress (R175). -/
  conversion : Option Nat
  deriving DecidableEq, Repr

/-- The machine: the queue of waiting commands, and everything the manual gives the part. -/
structure State where
  pending : List Instr
  /-- Microsecond timer (R12). -/
  clock : Nat
  inReset : Bool
  /-- The logic supply was below its threshold since the part last entered reset (R10). -/
  supplyWasLow : Bool
  cause : ResetCause
  straps : Straps
  /-- Count of the open orders met so far (Config.freeOrder); the model's own field. -/
  free : Nat
  mtu : Mtu
  prb : Prb
  tbi : Tbi
  svw : Svw
  ptk : Ptk
  lau : Lau
  bgu : Bgu
  fqu : Fqu
  drv : Drv
  prt : Prt
  deriving DecidableEq, Repr

/-- R27 -/
def Mtu.reset : Mtu :=
  { last := 0, polarity := .falling, crossed := false, realSeen := false, h := 10000, synthRun := 0, goodRun := 0
    mains := .lost, index := 0, windowStart := 0, drive := .over, tracking := .over, leading := false }

/-- Table 3-8, for an empty ring count `eNom`. -/
def CoilProbe.reset (eNom : Nat) : CoilProbe :=
  { discardDone := false, firstResult := false, e := eNom, tb := none, tres := none, q := 0, pendingRaw := []
    baseRun := 0, entryRun := 0, exitRun := 0, openRun := 0, object := false, opened := false, unfit := false }

/-- R49 -/
def Prb.reset (eNom : Nat) : Prb :=
  { pointer := 0, quiet := false, quietTimer := 0, quietCount := 0, inFlight := none
    coils := .all (.reset eNom) }

/-- R71, Table 4-7 -/
def Tbi.reset : Tbi :=
  { link := .listen, listen := some 0, listenEnded := false, report := none, silence := 0, stall := 0
    heardOther := false, ownSent := false, conflict := none, statusQueued := false, slots := [], tx := none
    rx := .waitIdle, refused := false, spacing := none, change := false, seq := 0, discards := 0 }

/-- Table 5-6 -/
def Entry.reset : Entry :=
  { q := 0, condition := .clear, band := .normal, label := 0, driving := false }

/-- Table 5-6 -/
def PeerRow.reset : PeerRow :=
  { supply := .a, claim := 0, demand := 0, limit := none, want := none, conflict := false
    protection := .armed, mains := .lost }

/-- R85 -/
def Svw.reset : Svw :=
  { entries := .all (.all .reset), rows := .all .reset, ages := .all none, fresh := .all false }

/-- R113 -/
def Ptk.reset : Ptk :=
  { labels := .all 0, registry := [], seq := 0, running := false, further := false }

/-- R129 -/
def Lau.reset : Lau :=
  { panelAge := none, present := false, enable := false, groups := [], demand := 0, pass := none }

/-- R137 -/
def Bgu.reset : Bgu := { claim := 0 }

/-- R155 -/
def Fqu.reset : Fqu :=
  { members := .all none, limit := none, want := none, s := 853, sApp := 853 }

/-- R169 -/
def CoilDrive.reset : CoilDrive :=
  { gates := none, inPeriod := false, tracked := false, periods := 0, len := 0, sampled := 0, acc := 0, energy := 0
    stopped := false, driving := false }

/-- R169 -/
def Drv.reset : Drv := { records := [], coils := .all .reset }

/-- R177, with the gate-supply monitor and the trip input as they read on leaving reset. -/
def Prt.reset (gateGood tripActive : Bool) : Prt :=
  { state := if tripActive then .tripped else .armed
    hold := if tripActive then some 0 else none
    sinceTrip := if tripActive then some 0 else none
    gateGood := gateGood, tripInput := tripActive
    readings := .all none, bands := .all .normal, conversion := none }

/-- Right after a power-on reset with every strap low, the gate supply good and the trip input inactive
(R10, R11; DESIGN CHOICE, notes/assumptions/1.md). Straps all low give coil type 0, so E_nom is 24 (Table 1-6). -/
def State.reset : State :=
  { pending := [], clock := 0, inReset := false, supplyWasLow := true, cause := .power
    straps := { tcol := 0, trow := 0, supply := .a, budget := 0, coilType := 0 }
    free := 0
    mtu := .reset, prb := .reset 24, tbi := .reset, svw := .reset, ptk := .reset, lau := .reset, bgu := .reset
    fqu := .reset, drv := .reset, prt := .reset true false }

end Sys2Proof.Machine
end

