-- ==== Sys2Proof/Machine/Operands.lean ====
section
/-!
DEFINITION. What the operands and the straps mean: surface geometry (chapter 1), the tables of the manual, the
reading of a ring-down (R31, R32), and the byte layouts, check and clamps of frames (chapter 12, R56).
-/

namespace Sys2Proof.Machine

/-! ### Arithmetic of 00 "Numbers and arithmetic" -/

/-- Division rounded half up. -/
def divHalfUp (a : Int) (b : Nat) : Int := (2 * a + b) / (2 * b)

/-- Division rounded up. -/
def divUp (a b : Nat) : Nat := (a + b - 1) / b

/-- `x` clamped to `lo..hi`. -/
def clamp (lo hi x : Nat) : Nat := if x < lo then lo else if hi < x then hi else x

/-- 1 for `true`, 0 for `false`. -/
def bit (b : Bool) : Nat := if b then 1 else 0

/-- The lesser of two optional values, `none` counting as absent. -/
def optMin (a b : Option Nat) : Option Nat :=
  match a, b with
  | none, y => y
  | some x, none => some x
  | some x, some y => some (min x y)

/-! ### Straps and geometry (R1 to R9) -/

/-- R7, Table 1-4: the setting that the pin levels give. -/
def strapsOf (p : StrapPins) : Straps :=
  { tcol := if p.tcol1 then (if p.tcol0 then 3 else 2) else (if p.tcol0 then 1 else 0)
    trow := if p.trow0 then 1 else 0
    supply := if p.supply0 then .b else .a
    budget := if p.budget1 then (if p.budget0 then 3 else 2) else (if p.budget0 then 1 else 0)
    coilType := if p.ctype1 then (if p.ctype0 then 3 else 2) else (if p.ctype0 then 1 else 0) }

/-- R6: station number. -/
def Straps.station (t : Straps) : Fin 8 := Fin.ofNat 8 (t.trow.val * 4 + t.tcol.val)

/-- R5: tile parity. -/
def Straps.parity (t : Straps) : Nat := (t.tcol.val + t.trow.val) % 2

/-- R5, R24: the polarity of the crossings after which the station probes. -/
def Straps.probePolarity (t : Straps) : Polarity := if t.parity = 0 then .rising else .falling

/-- R8, Table 1-5: the budget B in watts. -/
def Straps.watts (t : Straps) : Nat :=
  match t.budget.val with
  | 0 => 3680
  | 1 => 2990
  | 2 => 2300
  | _ => 1840

/-- R9, Table 1-6: E_nom. -/
def Straps.eNom (t : Straps) : Nat :=
  match t.coilType.val with
  | 0 => 24
  | 1 => 20
  | 2 => 28
  | _ => 22

/-- R9: lower baseline bound. -/
def Straps.eMin (t : Straps) : Nat := t.eNom - t.eNom / 4

/-- R9: upper baseline bound. -/
def Straps.eMax (t : Straps) : Nat := t.eNom + t.eNom / 4

/-- R9, Table 1-6: dead time in counts. -/
def Straps.deadTime (t : Straps) : Nat :=
  match t.coilType.val with
  | 0 => 24
  | 1 => 32
  | 2 => 32
  | _ => 40

/-- The 64 surface indices in increasing order (R2). -/
def surface : List Nat := List.range 64

/-- R2: surface index of coil `c` of station `st`, whose TROW is `st / 4` and TCOL `st % 4` (R6). -/
def surfaceIndex (st c : Fin 8) : Nat :=
  (2 * (st.val / 4) + c.val / 4) * 16 + (4 * (st.val % 4) + c.val % 4)

/-- R2: global column of a surface index. -/
def column (i : Nat) : Nat := i % 16

/-- R2: global row of a surface index. -/
def row (i : Nat) : Nat := i / 16

/-- R2: the station whose tile holds a surface index. -/
def ownerOf (i : Nat) : Fin 8 := Fin.ofNat 8 (4 * (row i / 2) + column i / 4)

/-- R2: local index of a surface index within its tile. -/
def localOf (i : Nat) : Fin 8 := Fin.ofNat 8 (4 * (row i % 2) + column i % 4)

/-- The difference of two numbers, taken as non-negative. -/
def gap (a b : Nat) : Nat := (a - b) + (b - a)

/-- R3: adjacency on the surface. -/
def adjacent (i j : Nat) : Bool := gap (column i) (column j) + gap (row i) (row j) == 1

/-- R4: Chebyshev distance. -/
def chebyshev (i j : Nat) : Nat := max (gap (column i) (column j)) (gap (row i) (row j))

/-- R3, Table 1-3: the border coils of adjacent tiles that face an own coil of station `st`. -/
def facingCoils (st : Fin 8) : List Nat :=
  surface.filter fun i => ownerOf i != st && eight.any fun c => adjacent (surfaceIndex st c) i

/-- Table 3-2: the two coils of a pair, lower local index first. -/
def pairCoils (p : Fin 4) : Fin 8 × Fin 8 :=
  match p.val with
  | 0 => (0, 6)
  | 1 => (1, 7)
  | 2 => (2, 4)
  | _ => (3, 5)

/-! ### Ring-downs (R31, R32) -/

/-- R31: the ring count N. -/
def ringCount (ws : List HalfWave) : Nat := min 31 (ws.takeWhile (·.above)).length

/-- R32: the ring period, from the starts of half-waves 2 and 6; unmeasured when N is below 6. -/
def ringPeriod (ws : List HalfWave) : Option Nat :=
  if ringCount ws < 6 then none
  else match ws with
    | _ :: w2 :: _ :: _ :: _ :: w6 :: _ => some ((w6.start - w2.start) / 2)
    | _ => none

/-! ### Tables of power, pattern and period -/

/-- Table 7-2: level power in watts. -/
def levelPower (level : Nat) : Nat :=
  [0, 100, 150, 200, 300, 400, 550, 700, 900, 1100, 1400, 1700, 2000, 2400, 2800].getD level 2800

/-- R161: stagger offset of a group with the given master. -/
def staggerOffset (st master : Fin 8) : Nat := (5 * st.val + 3 * master.val) % 16

/-- R162: whether half-cycle `h` is ON at density `n` and offset `o`. -/
def patternOn (h o n : Nat) : Bool :=
  let k := (h + o) % 16
  decide (k * n / 16 < (k + 1) * n / 16)

/-- R164: gate edges within a period of `p` counts with dead time `d`. -/
def gateTiming (p d : Nat) : GateTiming :=
  { highOn := d, highOff := p / 2, lowOn := p / 2 + d, lowOff := 2 * (p / 2) }

/-- State of a coil's two gates (Table 10-1). -/
inductive GateState where
  | bothLow
  | highOn
  | lowOn
  deriving DecidableEq, Repr

/-- The gates `k` counts after the start of the period (R164). -/
def gateAt (g : Option GateTiming) (k : Nat) : GateState :=
  match g with
  | none => .bothLow
  | some t =>
    if t.highOn ≤ k ∧ k < t.highOff then .highOn
    else if t.lowOn ≤ k ∧ k < t.lowOff then .lowOn
    else .bothLow

/-- R141: starting limit from the ring period. -/
def startingLimit (tres : Option Nat) : Nat :=
  match tres with
  | none => 853
  | some t => clamp 853 3200 (7 * t / 8)

/-- R141: lower end of the limit range. -/
def rangeLow (l0 : Nat) : Nat := max 853 (l0 - 64)

/-- R141: upper end of the limit range. -/
def rangeHigh (l0 : Nat) : Nat := min 3200 (l0 + 64)

/-! ### Frames (R51, R178, R179, Tables 12-1 to 12-5) -/

/-- A byte holding a number below 256. -/
def toByte (n : Nat) : Byte := BitVec.ofNat 8 n

/-- Byte `i` of a payload as a number. -/
def byteAt (bs : List Byte) (i : Nat) : Nat := (bs.getD i 0).toNat

/-- One bit into the check register (R178): generator x^16+x^13+x^12+x^11+x^10+x^8+x^6+x^5+x^2+1. -/
def crcBit (r : BitVec 16) (b : Bool) : BitVec 16 :=
  if r.msb != b then (r <<< 1) ^^^ 0x3D65#16 else r <<< 1

/-- One byte into the check register, most significant bit first (R178). -/
def crcByte (r : BitVec 16) (b : Byte) : BitVec 16 :=
  [7, 6, 5, 4, 3, 2, 1, 0].foldl (fun r k => crcBit r (b.getLsbD k)) r

/-- R178: the check over a run of bytes, from a register of all ones. -/
def crc (bs : List Byte) : BitVec 16 := bs.foldl crcByte 0xFFFF#16

/-- R178: the arbitration byte. -/
def arbitrationByte (cls source : Nat) (last : Bool) : Byte := toByte (cls * 32 + source * 2 + bit last)

/-- R178: arbitration byte, payload and check as sent; the last arbitration bit is sent recessive. -/
def frameOf (cls source : Nat) (payload : List Byte) : List Byte :=
  let body := arbitrationByte cls source true :: payload
  let check := (crc body).toNat
  body ++ [toByte (check / 256), toByte (check % 256)]

/-- R50: the levels of a character on the line, bit time by bit time, `false` dominant and `true` recessive: a start bit,
the eight bits of the byte with the most significant first, and a stop bit. -/
def characterBits (b : Byte) : List Bool := false :: (List.range 8).map b.getMsbD ++ [true]

/-- R50: the levels of a frame on the line, its characters without a gap. -/
def frameBits (frame : List Byte) : List Bool := frame.flatMap characterBits

/-- R50: after these levels, one a bit time, the line is idle: it has read recessive for 11 bit times. -/
def idleAfter (levels : List Bool) : Bool :=
  decide (11 ≤ levels.length) && (levels.drop (levels.length - 11)).all id

/-- R55: the check of a received frame matches its arbitration byte and payload. -/
def checkMatches (cls : Nat) (env : Envelope) (payload : List Byte) : Bool :=
  crc (arbitrationByte cls env.source.val env.last :: payload) == env.check

/-- R56, Table 4-3: a level as taken. -/
def clampLevel (l : Nat) : Nat := if l = 15 then 14 else l

/-- R56, Table 4-3: a limit or want as taken; 0 is none. -/
def clampPeriod (p : Nat) : Option Nat := if p = 0 then none else some (clamp 853 3200 p)

/-- Table 12-2: pan ID and level of a LEVEL payload. -/
def decodeLevel (bs : List Byte) : Nat × Nat := (byteAt bs 0, clampLevel (byteAt bs 1 % 16))

/-- Table 12-2: enable of a BEACON payload. -/
def decodeEnable (bs : List Byte) : Bool := byteAt bs 1 % 2 == 1

/-- Table 12-3: code of a PAN state. -/
def encodePanCode : PanCode → Nat
  | .live .settling => 0
  | .live .idle => 1
  | .live .heating => 2
  | .live .lifted => 3
  | .gone => 4

/-- Table 12-3 with Table 4-3: a code assigned to no state is taken as IDLE. -/
def decodePanCode (n : Nat) : PanCode :=
  match n with
  | 0 => .live .settling
  | 1 => .live .idle
  | 2 => .live .heating
  | 3 => .live .lifted
  | 4 => .gone
  | _ => .live .idle

/-- Table 12-3: the payload of a PAN frame. The box fields of a frame without a box are sent as 0
(DESIGN CHOICE, notes/assumptions/22.md). -/
def encodePan (c : PanContent) : List Byte :=
  let b := c.box.getD { colMin := 0, colMax := 0, rowMin := 0, rowMax := 0 }
  [ toByte c.id
  , toByte (encodePanCode c.code * 16 + c.level)
  , toByte (bit c.box.isSome * 128 + c.anchor)
  , toByte (b.colMin * 16 + b.colMax)
  , toByte (b.rowMin * 4 + b.rowMax)
  , toByte c.wp
  , toByte c.ws
  , toByte (c.tp / 256)
  , toByte (c.tp % 256)
  , toByte c.remaining ]

/-- Table 12-3, R179 and the clamps of Table 4-3. -/
def decodePan (bs : List Byte) : PanContent :=
  { id := byteAt bs 0 % 128
    code := decodePanCode (byteAt bs 1 / 16)
    level := clampLevel (byteAt bs 1 % 16)
    anchor := byteAt bs 2 % 64
    box :=
      if byteAt bs 2 / 128 = 1 then
        some { colMin := byteAt bs 3 / 16, colMax := byteAt bs 3 % 16
               rowMin := byteAt bs 4 / 4 % 4, rowMax := byteAt bs 4 % 4 }
      else none
    wp := byteAt bs 5
    ws := byteAt bs 6
    tp := byteAt bs 7 % 16 * 256 + byteAt bs 8
    remaining := min 60 (byteAt bs 9) }

/-- Content of a STATUS frame (Tables 12-4 and 12-5). -/
structure StatusContent where
  seq : Nat
  conflict : Bool
  protection : Protection
  gateGood : Bool
  mains : Mains
  quiet : Bool
  cause : ResetCause
  supply : Supply
  budget : Nat
  applied : Nat
  claim : Nat
  demand : Nat
  limit : Option Nat
  want : Option Nat
  discards : Nat
  coils : Oct Entry
  deriving DecidableEq, Repr

/-- Table 12-4 -/
def encodeProtection : Protection → Nat
  | .armed => 0
  | .tripped => 1
  | .locked => 2

/-- Table 12-4 with Table 4-3: code 3 is taken as LOCKED. -/
def decodeProtection (n : Nat) : Protection :=
  match n with
  | 0 => .armed
  | 1 => .tripped
  | _ => .locked

/-- Table 12-5 -/
def encodeCondition : Condition → Nat
  | .clear => 0
  | .covered => 1
  | .object => 2
  | .opened => 3
  | .unfit => 4

/-- Table 12-5 with Table 4-3: a code assigned to no condition is taken as OBJECT. -/
def decodeCondition (n : Nat) : Condition :=
  match n with
  | 0 => .clear
  | 1 => .covered
  | 2 => .object
  | 3 => .opened
  | 4 => .unfit
  | _ => .object

/-- Table 12-5 -/
def encodeBand : Band → Nat
  | .normal => 0
  | .warm => 1
  | .hot => 2
  | .sensor => 3

/-- Table 12-5 with Table 4-3: a code assigned to no band is taken as SENSOR. -/
def decodeBand (n : Nat) : Band :=
  match n with
  | 0 => .normal
  | 1 => .warm
  | 2 => .hot
  | _ => .sensor

/-- Table 12-5: one coil record. -/
def encodeCoil (e : Entry) : List Byte :=
  [ toByte (e.q * 32 + encodeCondition e.condition * 4 + bit e.driving * 2)
  , toByte (encodeBand e.band)
  , toByte e.label ]

/-- Table 12-5 with the clamps of Table 4-3, for the coil record that starts at byte `i`. The table clamps no label below
128, so a multiple of 16 is kept; how it is read is notes/assumptions/36.md. -/
def decodeCoil (bs : List Byte) (i : Nat) : Entry :=
  { q := min 4 (byteAt bs i / 32)
    condition := decodeCondition (byteAt bs i / 4 % 8)
    band := decodeBand (byteAt bs (i + 1) % 8)
    label := if 128 ≤ byteAt bs (i + 2) then 0 else byteAt bs (i + 2)
    driving := byteAt bs i / 2 % 2 == 1 }

/-- Two twelve-bit fields in three bytes (Table 12-4). -/
def encodeTwelves (a b : Nat) : List Byte :=
  [toByte (a / 16), toByte (a % 16 * 16 + b / 256), toByte (b % 256)]

/-- Tables 12-4 and 12-5: the payload of a STATUS frame. -/
def encodeStatus (c : StatusContent) : List Byte :=
  [ toByte c.seq
  , toByte (bit c.conflict * 128 + encodeProtection c.protection * 32 + bit (!c.gateGood) * 16
      + bit (c.mains == .lost) * 8 + bit c.quiet * 4 + bit (c.cause == .pin) * 2 + bit (c.supply == .b))
  , toByte (c.budget * 64 + c.applied / 256)
  , toByte (c.applied % 256) ]
  ++ encodeTwelves c.claim c.demand
  ++ encodeTwelves (c.limit.getD 0) (c.want.getD 0)
  ++ [toByte c.discards]
  ++ (eight.map fun i => encodeCoil (c.coils.get i)).flatten

/-- Tables 12-4 and 12-5 with the clamps of Table 4-3. -/
def decodeStatus (bs : List Byte) : StatusContent :=
  { seq := byteAt bs 0
    conflict := byteAt bs 1 / 128 == 1
    protection := decodeProtection (byteAt bs 1 / 32 % 4)
    gateGood := byteAt bs 1 / 16 % 2 == 0
    mains := if byteAt bs 1 / 8 % 2 = 0 then .ok else .lost
    quiet := byteAt bs 1 / 4 % 2 == 1
    cause := if byteAt bs 1 / 2 % 2 = 0 then .power else .pin
    supply := if byteAt bs 1 % 2 = 0 then .a else .b
    budget := byteAt bs 2 / 64
    applied := clamp 853 3200 (byteAt bs 2 % 16 * 256 + byteAt bs 3)
    claim := byteAt bs 4 * 16 + byteAt bs 5 / 16
    demand := byteAt bs 5 % 16 * 256 + byteAt bs 6
    limit := clampPeriod (byteAt bs 7 * 16 + byteAt bs 8 / 16)
    want := clampPeriod (byteAt bs 8 % 16 * 256 + byteAt bs 9)
    discards := byteAt bs 10
    coils := .ofFn fun i => decodeCoil bs (11 + 3 * i.val) }

/-- R75: the part of a STATUS that the peer row holds. -/
def rowOf (c : StatusContent) : PeerRow :=
  { supply := c.supply, claim := c.claim, demand := c.demand, limit := c.limit, want := c.want
    conflict := c.conflict, protection := c.protection, mains := c.mains }

end Sys2Proof.Machine
end

