-- ==== Sys2Proof/Machine/Flags.lean ====
section
/-!
DEFINITION. Everything the blocks derive from what they hold: conditions (R40), entries as read (R73, R77), weights
(R78 to R80), footprints (6.5), peer rows as given (R75), the lowest limit (R148), the surface period (R151), the
budget review (R132 to R135) and the classification of temperatures (Table 11-3).
-/

namespace Sys2Proof.Machine

/-! ### Probe unit -/

/-- R40: the condition of a coil. -/
def CoilProbe.condition (p : CoilProbe) : Condition :=
  if p.opened then .opened
  else if p.object then .object
  else if p.q = 0 then .clear
  else if p.unfit then .unfit
  else .covered

/-- R29: a probe strikes the coil; it does not strike one whose open flag is on. -/
def CoilProbe.struck (p : CoilProbe) : Bool := !p.opened

/-- R35: raw coverage of ring count `n` against baseline `e`. -/
def rawCoverage (e n : Nat) : Nat := if n < e then min 4 (5 * (e - n) / e) else 0

/-- R41: the object test; Tb / 8 is rounded down (notes/assumptions/8.md). -/
def objectTest (raw : Nat) (period tb : Option Nat) : Bool :=
  match period, tb with
  | some p, some t => decide (1 ≤ raw ∧ p < t - t / 8)
  | _, _ => false

/-- The median of three values (R37). -/
def median3 (a b c : Nat) : Nat := max (min a b) (min (max a b) c)

/-- R37: the reported coverage and the pending list after raw value `r`. -/
def debounce (q : Nat) (pendingRaw : List Nat) (r : Nat) : Nat × List Nat :=
  if r = q then (q, [])
  else
    let sameSide := pendingRaw.all fun x => decide (q < x ↔ q < r)
    match (if sameSide then pendingRaw ++ [r] else [r]) with
    | [a, b, c] => (median3 a b c, [])
    | xs => (q, xs)

/-! ### Temperature (Table 11-3) -/

/-- The band after a reading, from the band before. -/
def bandAfter (before : Band) (r : Int) : Band :=
  if r < -20 ∨ 350 < r then .sensor
  else match before with
    | .normal | .sensor => if 291 ≤ r then .hot else if 251 ≤ r then .warm else .normal
    | .warm => if 291 ≤ r then .hot else if 231 ≤ r then .warm else .normal
    | .hot => if 231 ≤ r then .hot else .normal

/-! ### The station and its entries -/

/-- R6: the station's own number. -/
def State.station (s : State) : Fin 8 := s.straps.station

/-- Surface index of an own coil. -/
def State.ownIndex (s : State) (c : Fin 8) : Nat := surfaceIndex s.station c

/-- R73: the own entry of a coil, as its owning blocks hold it. -/
def State.ownEntry (s : State) (c : Fin 8) : Entry :=
  { q := (s.prb.coils.get c).q
    condition := (s.prb.coils.get c).condition
    band := s.prt.bands.get c
    label := s.ptk.labels.get c
    driving := (s.drv.coils.get c).driving }

/-- R76, R73: whether the entries of a station are fresh; own entries always are. -/
def State.freshStation (s : State) (st : Fin 8) : Bool := st == s.station || s.svw.fresh.get st

/-- The fields an entry holds, fresh or stale. -/
def State.heldEntry (s : State) (i : Nat) : Entry :=
  if ownerOf i = s.station then s.ownEntry (localOf i) else (s.svw.entries.get (ownerOf i)).get (localOf i)

/-- Whether an entry is fresh (R76). -/
def State.freshEntry (s : State) (i : Nat) : Bool := s.freshStation (ownerOf i)

/-- R77: an entry as every block reads it; a stale one counts as CLEAR, unlabelled and not driving. -/
def State.entry (s : State) (i : Nat) : Entry := if s.freshEntry i then s.heldEntry i else .reset

/-- R77: a covered entry, from the fields as read. -/
def Entry.covered (e : Entry) : Bool :=
  decide (1 ≤ e.q) && (e.condition == .covered || e.condition == .unfit)

/-- R78: weight of an entry, from the fields as read; every label but 0 counts as a pan ID, a multiple of 16 too (DESIGN
CHOICE, notes/assumptions/36.md). -/
def Entry.weight (e : Entry) : Nat :=
  if e.condition = .covered ∧ e.label ≠ 0 then
    match e.band with
    | .normal => e.q
    | .warm => min e.q 2
    | .hot | .sensor => 0
  else 0

/-- R79: an own coil is drivable when its weight is 1 or more. -/
def State.drivable (s : State) (c : Fin 8) : Bool := decide (1 ≤ (s.ownEntry c).weight)

/-- R126: the pan under whose label an own coil is drivable, if it is. -/
def State.drivableFor (s : State) (c : Fin 8) : Option Nat :=
  if s.drivable c then some (s.ptk.labels.get c) else none

/-- R79: pan weight over the whole surface. -/
def State.panWeight (s : State) (p : Nat) : Nat :=
  ((surface.filter fun i => (s.entry i).label == p).map fun i => (s.entry i).weight).sum

/-- R80: cluster weight of a set of entries. -/
def State.clusterWeight (s : State) (xs : List Nat) : Nat :=
  ((xs.filter fun i => (s.entry i).condition != .object && (s.entry i).condition != .opened).map
    fun i => (s.entry i).q).sum

/-- The footprint of pan `p` in increasing surface index (6.5). -/
def State.footprint (s : State) (p : Nat) : List Nat :=
  surface.filter fun i => (s.entry i).label == p && (s.entry i).covered

/-- The fresh entries labelled `p`, in increasing surface index. -/
def State.labelled (s : State) (p : Nat) : List Nat :=
  surface.filter fun i => s.freshEntry i && (s.entry i).label == p

/-- Some own coil carries `p`. -/
def State.carries (s : State) (p : Nat) : Bool := eight.any fun c => s.ptk.labels.get c == p

/-- R104: the extent of the entries labelled `p`, stale ones by their last received label included. -/
def State.boxOf (s : State) (p : Nat) : Option Box :=
  match surface.filter fun i => (s.heldEntry i).label == p with
  | [] => none
  | i :: is => some
      { colMin := is.foldl (fun m j => min m (column j)) (column i)
        colMax := is.foldl (fun m j => max m (column j)) (column i)
        rowMin := is.foldl (fun m j => min m (row j)) (row i)
        rowMax := is.foldl (fun m j => max m (row j)) (row i) }

/-- The coils of the surface that satisfy `ok` and are joined to `seed` through chains of adjacent such coils,
in at most `fuel` rounds of growth. -/
def spread (ok : Nat → Bool) : Nat → List Nat → List Nat
  | 0, seed => seed
  | fuel + 1, seed =>
    let more := surface.filter fun i => ok i && !seed.contains i && seed.any (adjacent i)
    if more.isEmpty then seed else spread ok fuel (seed ++ more)

/-- R98: the fresh entries labelled `p` that are joined to the lowest one. -/
def State.joinedToLowest (s : State) (p : Nat) : List Nat :=
  spread (fun i => s.freshEntry i && (s.entry i).label == p) 64 ((s.labelled p).take 1)

/-- R101: an unlabelled covered entry; one with a label that is a multiple of 16 other than 0 counts as labelled (DESIGN
CHOICE, notes/assumptions/36.md). -/
def State.unlabelledCovered (s : State) (i : Nat) : Bool := (s.entry i).label == 0 && (s.entry i).covered

/-- R101: the cluster of an unlabelled covered entry. -/
def State.cluster (s : State) (i : Nat) : List Nat := spread s.unlabelledCovered 64 [i]

/-- R45: some facing border coil of an adjacent tile has a fresh entry with coverage 1 or more. -/
def State.borderCovered (s : State) : Bool :=
  (facingCoils s.station).any fun i => s.freshEntry i && decide (1 ≤ (s.entry i).q)

/-! ### Link and protection -/

/-- R50, R53: the level that the station drives on the line `k` bit times after its frame began, recessive without one. -/
def State.lineOutput (s : State) (k : Nat) : Bool :=
  match s.tbi.tx with
  | some x => (frameBits x.frame).getD k true
  | none => true

/-- Joined and armed (R130). -/
def State.mayClaim (s : State) : Bool := s.tbi.link == .joined && s.prt.state == .armed

/-- The station conditions of R157 and R165. -/
def State.mayDrive (s : State) : Bool :=
  s.tbi.link == .joined && s.mtu.mains == .ok && s.prt.state == .armed && s.prt.gateGood

/-! ### Peer rows as given (R75) -/

/-- R75: claim of a row as given. -/
def PeerRow.givenClaim (r : PeerRow) : Nat := if r.conflict ∨ r.protection ≠ .armed then 0 else r.claim

/-- R75: demand of a row as given. -/
def PeerRow.givenDemand (r : PeerRow) : Nat := if r.conflict ∨ r.protection ≠ .armed then 0 else r.demand

/-- R75: limit of a row as given. -/
def PeerRow.givenLimit (r : PeerRow) : Option Nat := if r.conflict ∨ r.mains = .lost then none else r.limit

/-- R75: want of a row as given. -/
def PeerRow.givenWant (r : PeerRow) : Option Nat := if r.conflict ∨ r.mains = .lost then none else r.want

/-- The rows of peers that are fresh (R76). -/
def State.freshRows (s : State) : List PeerRow :=
  (eight.filter fun st => st != s.station && s.svw.fresh.get st).map fun st => s.svw.rows.get st

/-- R131: claim and demand of a station's row, when it is a fresh same-supply peer. -/
def State.claimant (s : State) (st : Fin 8) : Option (Nat × Nat) :=
  let r := s.svw.rows.get st
  if st ≠ s.station ∧ s.svw.fresh.get st ∧ r.supply = s.straps.supply then some (r.givenClaim, r.givenDemand)
  else none

/-! ### Frequency unit -/

/-- R148: the lowest L of the drive members. -/
def State.lowestLimit (s : State) : Option Nat :=
  eight.foldl (fun m c => optMin m ((s.fqu.members.get c).map (·.l))) none

/-- R151: the entries of the surface period, each a limit and a want. -/
def State.periodEntries (s : State) : List (Nat × Nat) :=
  ((s.fqu.limit, s.fqu.want) :: s.freshRows.map fun r => (r.givenLimit, r.givenWant)).filterMap fun e =>
    match e with
    | (some l, some w) => some (l, w)
    | _ => none

/-- R151: the surface period of a list of entries. -/
def surfacePeriod (es : List (Nat × Nat)) : Nat :=
  match es with
  | [] => 853
  | e :: rest =>
    clamp 853 3200 (min (rest.foldl (fun m x => min m x.1) e.1) (rest.foldl (fun m x => max m x.2) e.2))

/-- R153: the switching period to be used. -/
def State.switchingPeriod (s : State) : Nat :=
  match s.fqu.limit with
  | none => s.fqu.sApp
  | some l => min s.fqu.sApp l

/-! ### Budget review (R132 to R135) -/

/-- The new claim, from budget `b`, own claim `c`, demand `q` and the peers' claims and demands. -/
def review (b c q : Nat) (peers : List (Nat × Nat)) : Nat :=
  let hr : Int := (b : Int) - c - (peers.map (·.1)).sum
  let demanding := bit (decide (0 < q)) + (peers.filter fun p => decide (0 < p.2)).length
  let drawing := bit (decide (0 < c)) + (peers.filter fun p => decide (0 < p.1)).length
  let starved := peers.any fun p => decide (p.1 < p.2)
  let fair := b / demanding
  let provisional :=
    if hr < 0 then c - divUp (-hr).toNat drawing
    else if starved && decide (fair < c) then max fair (c - 200)
    else c + min 200 hr.toNat
  min b (min q provisional)

/-! ### Drive unit -/

/-- The lowest member of a set of own coils, 0 of an empty set. -/
def lowestMember (m : Oct Bool) : Fin 8 := (eight.find? fun c => m.get c).getD 0

/-- No member. -/
def noMembers (m : Oct Bool) : Bool := !eight.any fun c => m.get c

/-- R158: the master of a record. -/
def GroupRecord.master (r : GroupRecord) : Fin 8 := lowestMember r.members

/-- R149, R159: a group is started, or ENDING and not yet removed, on the station. That an ENDING record counts also at a
window start that it outlives is a DESIGN CHOICE (State.startWaiting, notes/assumptions/35.md). -/
def State.anyStarted (s : State) : Bool := s.drv.records.any fun r => r.state != .waiting

/-- R167: measured power of a group, from its energy sum in mJ and the window length in microseconds. -/
def measuredPower (sum : Int) (window : Nat) : Int := divHalfUp (sum * 1000) window

/-- R168: threshold of the density loop. -/
def loopThreshold (target : Nat) : Nat := max 16 (target / 16)

/-- R168: density after error `e` at threshold `th`. -/
def densityAfter (n : Nat) (e : Int) (th : Nat) : Nat :=
  let up := if 4 * (th : Int) < e then 2 else if (th : Int) < e then 1 else 0
  let down := if e < -4 * (th : Int) then 2 else if e < -(th : Int) then 1 else 0
  clamp 1 16 (n + up - down)

/-- R150: the want after a window end, from density used, error and threshold of each group that ran. -/
def wantAfter (want : Nat) (ran : List (Nat × Int × Nat)) : Nat :=
  if ran.isEmpty then want
  else if ran.any fun g => decide (g.1 = 16 ∧ (g.2.2 : Int) < g.2.1) then clamp 853 3200 (want + 16)
  else if ran.all fun g => decide (g.1 ≤ 12) then clamp 853 3200 (want - 16)
  else want

/-- R29, Table 12-6: the pulses of the burst that the probe in flight has fired into the probe terminal of an own coil: eight
in each coil of the pair that is struck, from the opening of the slot on, and none in any other. -/
def State.probeOutput (s : State) (c : Fin 8) : Nat :=
  match s.prb.inFlight with
  | some f =>
    if f.fired ∧ (c = (pairCoils f.pair).1 ∨ c = (pairCoils f.pair).2) ∧ (s.prb.coils.get c).struck then 8 else 0
  | none => 0

/-- R170: the gates of an own coil at `k` counts into the period in progress; the active trip input and reset hold
them low in hardware. -/
def State.gateOutput (s : State) (c : Fin 8) (k : Nat) : GateState :=
  if s.inReset || s.prt.tripInput then .bothLow else gateAt (s.drv.coils.get c).gates k

end Sys2Proof.Machine
end

