-- ==== Sys2Proof/Machine/Ops.lean ====
section
/-!
DEFINITION. The operations that several commands share, block by block: time, STATUS changes, tracking triggers, the
leaving and joining of drive, forced zeros, labels and marks, PAN requests, the registry, the allocation pass and
the changes of link state.
-/

namespace Sys2Proof.Machine

/-- Apply `f` for each of the eight indices in increasing order. -/
def eachOfEight (f : Fin 8 → State → State) (s : State) : State := eight.foldl (fun s c => f c s) s

/-! ### Time (R12) -/

/-- A running timer after `k` more milliseconds, stopping at `top`. -/
def runTimer (top k : Nat) (t : Option Nat) : Option Nat := t.map fun x => min top (x + k)

/-- Timers and age of a record after `k` milliseconds (Table 6-2, Table 6-1). -/
def PanRecord.advance (k : Nat) (r : PanRecord) : PanRecord :=
  { r with
    settle := runTimer 1000 k r.settle
    stable := runTimer 1000 k r.stable
    lifted := runTimer 6000 k r.lifted
    age := min 1000 (r.age + k)
    period := runTimer 250 k r.period
    spacing := runTimer 20 k r.spacing }

/-- Every slot is empty (R66). -/
def Tbi.allEmpty (t : Tbi) : Bool := !t.statusQueued && t.slots.isEmpty && t.tx.isNone

/-- Timers of the tile bus interface after `k` milliseconds; silence and stall run in JOINED only (R66). -/
def Tbi.advance (k : Nat) (t : Tbi) : Tbi :=
  { t with
    listen := runTimer 300 k t.listen
    report := runTimer 100 k t.report
    silence := if t.link = .joined then min 250 (t.silence + k) else t.silence
    stall := if t.link = .joined then (if t.allEmpty then 0 else min 250 (t.stall + k)) else t.stall
    conflict := runTimer 1000 k t.conflict
    spacing := runTimer 20 k t.spacing }

/-- `dt` microseconds pass: every running timer advances by the milliseconds that the millisecond timer counts
(R12, notes/assumptions/3.md); the quiet timer is held at 0 while a facing border coil is covered (R45). -/
def State.advance (dt : Nat) (s : State) : State :=
  let k := (s.clock + dt) / 1000 - s.clock / 1000
  { s with
    clock := s.clock + dt
    prb := { s.prb with quietTimer := if s.borderCovered then 0 else min 60000 (s.prb.quietTimer + k) }
    tbi := s.tbi.advance k
    svw := { s.svw with ages := s.svw.ages.map (runTimer 350 k) }
    ptk := { s.ptk with registry := s.ptk.registry.map (PanRecord.advance k) }
    lau := { s.lau with panelAge := runTimer 1000 k s.lau.panelAge }
    prt := { s.prt with hold := runTimer 2000 k s.prt.hold, sinceTrip := runTimer 30000 k s.prt.sinceTrip } }

/-! ### STATUS changes and tracking triggers -/

/-- A STATUS is on the line. -/
def Tbi.statusOnLine (t : Tbi) : Bool := t.tx.any fun x => x.pan.isNone

/-- R63: a STATUS change. -/
def Tbi.statusChange (t : Tbi) : Tbi :=
  if t.link = .joined ∨ t.link = .isolated then
    if t.statusOnLine then { t with change := true }
    else if t.statusQueued then t
    else if t.spacing.isSome then { t with change := true }
    else { t with statusQueued := true }
  else t

/-- R63: a reported field has changed. -/
def State.statusChange (s : State) : State := { s with tbi := s.tbi.statusChange }

/-- R95: a trigger of the tracking pass. -/
def State.trigger (s : State) : State :=
  { s with ptk := if s.ptk.running then { s.ptk with further := true } else { s.ptk with running := true } }

/-! ### Frequency unit -/

/-- R148, R149, R151: the station limit is worked out again, a want without a started group is none, and the
surface period is computed afresh. -/
def State.refreshPeriod (s : State) : State :=
  let s₁ : State := { s with fqu := { s.fqu with
    limit := s.lowestLimit
    want := if s.anyStarted then s.fqu.want else none } }
  { s₁ with fqu := { s₁.fqu with s := surfacePeriod s₁.periodEntries } }

/-- R141: what the frequency unit holds for a coil that becomes a drive member. -/
def Member.start (tres : Option Nat) : Member :=
  { l0 := startingLimit tres, l := startingLimit tres, count := 0, sum := 0, negative := false, hard := 0 }

/-! ### Drive unit -/

/-- Table 10-1: the driving flag; a change of it is a STATUS change (R63). -/
def State.setDriving (c : Fin 8) (b : Bool) (s : State) : State :=
  if (s.drv.coils.get c).driving = b then s
  else
    let s₁ : State := { s with drv := { s.drv with coils := s.drv.coils.set c { s.drv.coils.get c with driving := b } } }
    s₁.statusChange

/-- R141: an own coil becomes a drive member, and its driving flag is set. -/
def State.becomeDriveMember (c : Fin 8) (s : State) : State :=
  let s₁ : State := { s with fqu := { s.fqu with
    members := s.fqu.members.set c (some (Member.start (s.prb.coils.get c).tres)) } }
  (s₁.setDriving c true).refreshPeriod

/-- R166: a coil with the samples taken of it: sixteen in each period, each product over a sixteenth of the period. -/
def CoilDrive.addSamples (xs : List Sample) (d : CoilDrive) : CoilDrive :=
  if d.inPeriod then
    let new := xs.take (16 - d.sampled)
    { d with
      sampled := d.sampled + new.length
      acc := d.acc + (new.map fun x => x.current * x.voltage).sum * d.len }
  else d

/-- R166: the samples of the coils that are in a switching period are added to their energies. -/
def State.takeSamples (samples : Oct (List Sample)) (s : State) : State :=
  { s with drv := { s.drv with coils := .ofFn fun c => (s.drv.coils.get c).addSamples (samples.get c) } }

/-- One millijoule in the unit of the accumulated energy, 1 mA × 1 V × 1/16 count of the 64 MHz timebase. -/
def unitsPerMillijoule : Int := 1024000000

/-- Both gates of a coil go low, and it takes no part in a period any more. -/
def CoilDrive.gatesLow (d : CoilDrive) : CoilDrive := { d with gates := none, inPeriod := false, tracked := false }

/-- R166: a coil's switching ends; its accumulated energy, rounded down to mJ, becomes half-cycle energy and goes
into the window energy sum of its started or ending group. Where the coil has switched before in the half-cycle and come
back, the second energy is added to the first (DESIGN CHOICE, notes/assumptions/23.md). -/
def State.endSwitching (c : Fin 8) (s : State) : State :=
  let d := s.drv.coils.get c
  let mj := d.acc / unitsPerMillijoule
  { s with drv :=
    { records := s.drv.records.map fun r =>
        if r.state ≠ .waiting ∧ r.members.get c then { r with sum := r.sum + mj } else r
      coils := s.drv.coils.set c { d.gatesLow with acc := 0, energy := d.energy + mj } } }

/-- R142: a coil stops being a drive member; its items are discarded and its driving flag is cleared. -/
def State.leaveDriveMember (c : Fin 8) (s : State) : State :=
  let s₁ : State := { s with fqu := { s.fqu with members := s.fqu.members.set c none } }
  s₁.setDriving c false

/-- R158: a record with its members replaced; a new master's offset is held as pending. -/
def GroupRecord.withMembers (st : Fin 8) (m : Oct Bool) (r : GroupRecord) : GroupRecord :=
  let r' := { r with members := m }
  if r.state = .waiting ∨ r'.master = r.master then r'
  else { r' with offsetPending := some (staggerOffset st r'.master) }

/-- R158: own coil `c` leaves the group of pan `p`, out of every record of it. -/
def State.leaveGroup (c : Fin 8) (p : Nat) (s : State) : State :=
  let drives := s.drv.records.any fun r => r.id == p && r.members.get c && r.state != .waiting
  let s₁ := if drives then (s.endSwitching c).leaveDriveMember c else s
  let s₂ : State := { s₁ with drv := { s₁.drv with
    records := (s₁.drv.records.map fun (r : GroupRecord) =>
        if r.id = p ∧ r.members.get c then r.withMembers s.station (r.members.set c false) else r).filter
      fun (r : GroupRecord) => !noMembers r.members } }
  s₂.refreshPeriod

/-- R158: own coil `c` joins the waiting or started record of pan `p`. -/
def State.joinGroup (c : Fin 8) (p : Nat) (s : State) : State :=
  let starts := s.drv.records.any fun r => r.id == p && r.state == .started
  let s₁ : State := { s with drv := { s.drv with
    records := s.drv.records.map fun r =>
      if r.id = p ∧ r.state ≠ .ending then r.withMembers s.station (r.members.set c true) else r } }
  if starts then s₁.becomeDriveMember c else s₁

/-- R159: a target of 0 reaches pan `p`'s record: a WAITING one is removed, a STARTED one becomes ENDING, also while an
ENDING record of the pan still stands beside it (DESIGN CHOICE, notes/assumptions/26.md). -/
def State.targetZero (p : Nat) (s : State) : State :=
  let s₁ : State := { s with drv := { s.drv with
    records := (s.drv.records.filter fun (r : GroupRecord) => !(r.id == p && r.state == .waiting)).map
      fun (r : GroupRecord) =>
      if r.id = p ∧ r.state = .started then { r with state := .ending, n := 0, target := 0, endedAt := some s.clock } else r } }
  s₁.refreshPeriod

/-- R160: the coil is a member of a group that is started or ending. -/
def State.inStarted (s : State) (c : Fin 8) : Bool :=
  s.drv.records.any fun r => r.state != .waiting && r.members.get c

/-- R160: a record after a stop of drive: back to WAITING with its target and members. -/
def GroupRecord.stop (r : GroupRecord) : GroupRecord :=
  { r with
    state := .waiting, n := 0, offset := 0, offsetPending := none, sum := 0, on := false, period := none
    endedAt := none }

/-- R160: a coil after a stop of drive: its gates are low, and its energies are discarded where its group has ended. -/
def CoilDrive.stop (ended : Bool) (d : CoilDrive) : CoilDrive :=
  if ended then { d.gatesLow with acc := 0, energy := 0 } else d.gatesLow

/-- R160: every gate goes low at once, started groups return to WAITING and ENDING records are removed. -/
def State.driveStop (s : State) : State :=
  let s₁ := eachOfEight State.leaveDriveMember s
  let s₂ : State := { s₁ with drv :=
    { records := (s₁.drv.records.filter fun (r : GroupRecord) => r.state != .ending).map GroupRecord.stop
      coils := .ofFn fun c => (s₁.drv.coils.get c).stop (s.inStarted c) } }
  s₂.refreshPeriod

/-- R160, after a trip or entry into ISOLATED or CONFLICT: drive stops and every record is removed. -/
def State.driveEnd (s : State) : State :=
  let s₁ := s.driveStop
  let s₂ : State := { s₁ with drv := { s₁.drv with records := [] } }
  s₂.refreshPeriod

/-! ### Forced zeros (R125, R136) -/

/-- R125: both targets of pan `p`'s group are forced to 0, and the drive unit is handed the 0. -/
def State.forceZero (p : Nat) (s : State) : State :=
  let s₁ : State := { s with lau := { s.lau with
    groups := s.lau.groups.map fun g => if g.id = p then { g with target := 0, scaled := 0 } else g } }
  if s.lau.groups.any fun g => g.id == p then s₁.targetZero p else s₁

/-- R125: every group target is forced to 0. -/
def State.forceZeroAll (s : State) : State := (s.lau.groups.map (·.id)).foldl (fun s p => s.forceZero p) s

/-- R136, R125: the claim is forced to 0, and with it every scaled target. -/
def State.claimZero (s : State) : State :=
  let s₁ : State := { s with
    bgu := { claim := 0 }
    lau := { s.lau with groups := s.lau.groups.map fun (g : Group) => { g with scaled := 0 } } }
  (s.lau.groups.map (·.id)).foldl (fun s p => s.targetZero p) s₁

/-! ### Drivability between ticks (R126) -/

/-- R126: own coil `c`, which may be in the group of pan `p` and in no other (in none when it is not drivable), leaves
the groups that list it otherwise. -/
def dropMember (c : Fin 8) (p : Option Nat) (gs : List Group) : List Group :=
  gs.map fun (g : Group) =>
    if g.members.get c ∧ some g.id ≠ p then { g with members := g.members.set c false } else g

/-- R126: own coil `c` is listed in the group of pan `p`. -/
def addMember (c : Fin 8) (p : Nat) (gs : List Group) : List Group :=
  gs.map fun (g : Group) => if g.id = p then { g with members := g.members.set c true } else g

/-- R126: own coil `c`, drivable for pan `was` before the change at hand, leaves the groups it no longer belongs to, and a
group without a member ends. Where `c` becomes drivable, or has changed from one pan's label to another's, it joins the
running group of its label; a coil that was drivable for that pan before joins none. The groups that a pass in progress has
formed follow in the same way (R120, notes/assumptions/12.md). -/
def State.followDrivability (was : Option Nat) (c : Fin 8) (s : State) : State :=
  let p := s.ptk.labels.get c
  let own := s.drivableFor c
  let left := (s.drv.records.filter fun (r : GroupRecord) => r.members.get c && some r.id != own).map (·.id)
  let s₁ : State := { s with lau := { s.lau with
    groups := (dropMember c own s.lau.groups).filter fun (g : Group) => !noMembers g.members
    pass := s.lau.pass.map fun x => { x with groups := dropMember c own x.groups } } }
  let s₂ := left.foldl (fun s id => s.leaveGroup c id) s₁
  if own = some p ∧ was ≠ some p ∧
      s₂.lau.groups.any (fun g => g.id == p && decide (0 < g.scaled) && !g.members.get c) then
    let s₃ : State := { s₂ with lau := { s₂.lau with
      groups := addMember c p s₂.lau.groups
      pass := s₂.lau.pass.map fun x => { x with groups := addMember c p x.groups } } }
    s₃.joinGroup c p
  else s₂

/-! ### Marks, labels and bands of own coils -/

/-- R40, R48: the condition of an own coil, drivable for pan `was` before, has changed outside a probe. -/
def State.conditionChanged (was : Option Nat) (c : Fin 8) (s : State) : State :=
  (s.statusChange.trigger).followDrivability was c

/-- R44: a request of the frequency unit to set or clear the UNFIT mark. -/
def State.requestUnfit (c : Fin 8) (b : Bool) (s : State) : State :=
  let p := s.prb.coils.get c
  if b ∧ (p.object ∨ p.opened) then s
  else
    let s₁ : State := { s with prb := { s.prb with coils := s.prb.coils.set c { p with unfit := b } } }
    if (s₁.prb.coils.get c).condition = p.condition then s₁ else s₁.conditionChanged (s.drivableFor c) c

/-- R87, R147: the label of an own coil is written; a change of it is a STATUS change, clears the UNFIT mark and may
end or begin the coil's membership of a group (R126). -/
def State.setLabel (c : Fin 8) (l : Nat) (s : State) : State :=
  if s.ptk.labels.get c = l then s
  else
    let s₁ : State := { s with ptk := { s.ptk with labels := s.ptk.labels.set c l } }
    ((s₁.statusChange).requestUnfit c false).followDrivability (s.drivableFor c) c

/-- R175, R176: the temperature band of an own coil is written. -/
def State.setBand (c : Fin 8) (b : Band) (s : State) : State :=
  if s.prt.bands.get c = b then s
  else
    let s₁ : State := { s with prt := { s.prt with bands := s.prt.bands.set c b } }
    (s₁.statusChange).followDrivability (s.drivableFor c) c

/-- R87: an own coil that is uncovered, OBJECT or OPEN loses its label. -/
def State.stripUncovered (c : Fin 8) (s : State) : State :=
  let p := s.prb.coils.get c
  if p.q = 0 ∨ p.condition = .object ∨ p.condition = .opened then s.setLabel c 0 else s

/-- R47: the probe unit leaves quiet mode. -/
def State.leaveQuiet (s : State) : State :=
  if s.prb.quiet then { s with prb := { s.prb with quiet := false, quietTimer := 0, quietCount := 0 } } else s

/-! ### PAN requests (R58, R59, R107, R108) -/

/-- R58, R59: a PAN request; whether it was taken, and the slots after it. -/
def Tbi.request (c : PanContent) (t : Tbi) : Tbi × Bool :=
  if t.link ≠ .joined then (t, false)
  else if t.slots.any fun x => x.id == c.id then
    ({ t with slots := t.slots.map fun x => if x.id = c.id then { x with queued := some c } else x }, true)
  else if t.slots.length < 8 then
    ({ t with slots := t.slots ++ [{ id := c.id, queued := some c, line := none }] }, true)
  else ({ t with refused := true }, false)

/-- The registry's record of a pan. -/
def State.record? (s : State) (p : Nat) : Option PanRecord := s.ptk.registry.find? fun r => r.id == p

/-- The record of a pan that the station holds. -/
def State.held? (s : State) (p : Nat) : Option PanRecord :=
  match s.record? p with
  | some r => if r.role = .held then some r else none
  | none => none

/-- Keep the registry in increasing ID, one record per ID (R88). -/
def insertRecord (r : PanRecord) : List PanRecord → List PanRecord
  | [] => [r]
  | x :: xs => if r.id < x.id then r :: x :: xs else if r.id = x.id then r :: xs else x :: insertRecord r xs

/-- Write a record without any of the consequences of a registry change. -/
def State.writeRecord (r : PanRecord) (s : State) : State :=
  { s with ptk := { s.ptk with registry := insertRecord r s.ptk.registry } }

/-- R106: what a PAN change compares. -/
def PanRecord.facts (r : PanRecord) : PanFacts :=
  { state := r.state, level := r.level, anchor := r.anchor, box := r.box, wp := r.wp, ws := r.ws }

/-- R108: lifted time remaining, in units of 100 ms rounded up; 0 outside LIFTED. -/
def PanRecord.remaining (r : PanRecord) : Nat :=
  match r.state, r.lifted with
  | .lifted, some t => divUp (6000 - t) 100
  | _, _ => 0

/-- R108: content of a PAN request. -/
def PanRecord.content (r : PanRecord) : PanContent :=
  { id := r.id, code := .live r.state, level := r.level, anchor := r.anchor, box := r.box
    wp := min 255 r.wp, ws := min 255 r.ws, tp := r.tp.getD 0, remaining := r.remaining }

/-- R108: content of the announcement that a pan is GONE. -/
def PanRecord.goneContent (r : PanRecord) : PanContent :=
  { r.content with code := .gone, tp := 0, remaining := 0 }

/-- R107, R108: a request for a held pan, made only while the link state is JOINED. -/
def State.requestPan (p : Nat) (s : State) : State :=
  match s.held? p with
  | none => s
  | some r =>
    if s.tbi.link ≠ .joined then s
    else
      let (t, taken) := s.tbi.request r.content
      let r' :=
        if taken then { r with period := some 0, spacing := some 0, refused := false, requested := some r.facts }
        else { r with refused := true, requested := some r.facts }
      ({ s with tbi := t } : State).writeRecord r'

/-- R107: a PAN change of a held pan. -/
def State.panChange (p : Nat) (s : State) : State :=
  match s.held? p with
  | none => s
  | some r =>
    if s.tbi.link ≠ .joined then s
    else if r.spacing.isSome then s.writeRecord { r with change := true }
    else s.requestPan p

/-- R108: a pan is announced GONE once, where the link state lets it. -/
def State.announceGone (r : PanRecord) (s : State) : State :=
  { s with tbi := (s.tbi.request r.goneContent).1 }

/-- R108: renewal of refused requests in the order of `ps`, until one is refused again. -/
def renewRefused : List Nat → State → State
  | [], s => s
  | p :: ps, s =>
    let s' := s.requestPan p
    if (s'.held? p).any (·.refused) then s' else renewRefused ps s'

/-- R59, R108: a PAN slot has become empty; a refused request outstanding is renewed. -/
def State.slotFree (s : State) : State :=
  if s.tbi.refused then
    let s₁ : State := { s with tbi := { s.tbi with refused := false } }
    renewRefused ((s.ptk.registry.filter fun r => r.role == .held && r.refused).map (·.id)) s₁
  else s

/-! ### Registry -/

/-- R95, R125: write a record with the consequences of a change of its state or of its storing. -/
def State.putRecord (r : PanRecord) (s : State) : State :=
  let old := (s.record? r.id).map (·.state)
  let s₁ := s.writeRecord r
  let s₂ := if old = some r.state then s₁ else s₁.trigger
  if old = some .heating ∧ r.state ≠ .heating then s₂.forceZero r.id else s₂

/-- R95, R125: remove a record. -/
def State.dropRecord (p : Nat) (s : State) : State :=
  match s.record? p with
  | none => s
  | some _ =>
    let s₁ : State := { s with ptk := { s.ptk with registry := s.ptk.registry.filter fun (r : PanRecord) => r.id != p } }
    (s₁.trigger).forceZero p

/-- R89: of two HEARD records, the one removed first: the greater age, then the higher ID. -/
def evictsBefore (a b : PanRecord) : Bool := decide (b.age < a.age ∨ (a.age = b.age ∧ b.id < a.id))

/-- R89: the HEARD record that makes room in a full registry. A record that labels an own coil is never removed so, also
where a pass has just given its ID to the coil and has not yet set its role. -/
def State.evicted? (s : State) : Option PanRecord :=
  (s.ptk.registry.filter fun (r : PanRecord) => r.role == .heard && !s.carries r.id).foldl
    (fun m r => match m with
      | none => some r
      | some x => if evictsBefore r x then some r else some x) none

/-- R89: a new record can be stored. -/
def State.canStore (s : State) : Bool := decide (s.ptk.registry.length < 16) || s.evicted?.isSome

/-- R89: store a new record, making room where that is needed and possible. -/
def State.storeRecord (r : PanRecord) (s : State) : State :=
  if s.ptk.registry.length < 16 then s.putRecord r
  else match s.evicted? with
    | some x => (s.dropRecord x.id).putRecord r
    | none => s

/-- R105: the holding of a pan is taken from the station; timers stop and PAN timers and marks are dropped. -/
def PanRecord.giveUp (r : PanRecord) : PanRecord :=
  { r with settle := none, stable := none, lifted := none, period := none, spacing := none
           change := false, refused := false, requested := none }

/-- R105: the station comes to hold a pan. A pan target computed before, also one of a pass in progress, is given up
(DESIGN CHOICE, notes/assumptions/33.md). -/
def PanRecord.takeHolding (st : Fin 8) (r : PanRecord) : PanRecord :=
  let r' : PanRecord := { r.giveUp with role := .held, holder := st, tp := none, tpNext := none }
  match r.state with
  | .settling => { r' with settle := some 0 }
  | .idle => { r' with stable := some 0 }
  | .heating => { r' with stable := some 0 }
  | .lifted => { r' with state := (if r.level = 0 then .idle else .heating), stable := some 0 }

/-- R90: a record whose role has become HEARD with its age already at 1,000 ms is removed. -/
def State.dropIfExpired (p : Nat) (s : State) : State :=
  match s.record? p with
  | some r => if r.role = .heard ∧ 1000 ≤ r.age then s.dropRecord p else s
  | none => s

/-- R92: a level written into a HELD record: the state it moves to. -/
def levelState (st : PanState) (level : Nat) : PanState :=
  match st with
  | .idle => if level = 0 then .idle else .heating
  | .heating => if level = 0 then .idle else .heating
  | .settling => .settling
  | .lifted => .lifted

/-- R92: a record with a level written into it as HELD. -/
def PanRecord.withLevel (level : Nat) (r : PanRecord) : PanRecord :=
  { r with level := level, state := levelState r.state level }

/-- R92, R106: write a level into a HELD record; a change of its level or state is a PAN change. A HELD record in HEATING
at level 0 enters IDLE at an ALL-OFF and at the panel's loss (R115, R119); a LEVEL does not get here with the level that
the record already has (notes/assumptions/30.md). -/
def State.writeHeldLevel (level : Nat) (p : Nat) (s : State) : State :=
  match s.held? p with
  | none => s
  | some r => if r.withLevel level = r then s else (s.putRecord (r.withLevel level)).panChange p

/-! ### Allocation pass (R120 to R124) -/

/-- R121: pan target of a record, from the view as it stands. -/
def State.panTarget (s : State) (r : PanRecord) : Nat :=
  if r.state = .heating ∧ s.lau.present ∧ s.lau.enable then
    min (levelPower r.level) (110 * s.panWeight r.id)
  else 0

/-- R122: the own drivable coils labelled `p`. -/
def State.groupMembers (s : State) (p : Nat) : Oct Bool :=
  .ofFn fun c => s.drivable c && s.ptk.labels.get c == p

/-- R122: weight of a set of own coils. -/
def State.groupWeight (s : State) (m : Oct Bool) : Nat :=
  ((eight.filter fun c => m.get c).map fun c => (s.ownEntry c).weight).sum

/-- R122: the groups of the station with their unscaled targets. -/
def State.formGroups (s : State) : List Group :=
  (s.ptk.registry.filter fun r => !noMembers (s.groupMembers r.id)).map fun r =>
    let m := s.groupMembers r.id
    let tg := s.panTarget r * s.groupWeight m / s.panWeight r.id
    { id := r.id, members := m, target := tg, scaled := 0 }

/-- R124: scaling of an unscaled target to claim `c` against demand `q`. -/
def scaleTarget (c q t : Nat) : Nat := if q ≤ c then t else t * c / q

/-- R124, R132 to R135: a pass with its review worked out, for budget `b`, from what it reads, and its targets scaled. -/
def Pass.reviewed (b : Nat) (p : Pass) : Pass :=
  let c := match p.own with
    | none => 0
    | some x => review b x p.demand (eight.filterMap p.peers.get)
  { p with
    claim := c
    groups := p.groups.map fun (g : Group) => { g with scaled := scaleTarget c p.demand g.target } }

/-- R120 to R124 with the review: the allocation pass begins, and its results wait for its end. A pass still in progress is
given up, its ALL-OFF mark included, and the new one takes its place (DESIGN CHOICE, notes/assumptions/34.md). -/
def State.startPass (s : State) : State :=
  let groups := s.formGroups
  let read : Pass :=
    { groups := groups, demand := (groups.map (·.target)).sum, claim := 0, allOff := false
      own := if s.mayClaim then some s.bgu.claim else none
      peers := .ofFn s.claimant, read := .all false }
  let result := read.reviewed s.straps.watts
  { s with
    ptk := { s.ptk with registry := s.ptk.registry.map fun (r : PanRecord) =>
      { r with tpNext := if r.role = .held ∨ s.carries r.id then some (s.panTarget r) else none } }
    lau := { s.lau with pass := some result } }

/-- R131: a STATUS of station `src` has been written while a pass was in progress: its review may have read the row
before the write or may read it after (notes/assumptions/5.md); a row once read keeps its values for the review. -/
def State.reviewAfterWrite (src : Fin 8) (s : State) : State :=
  match s.lau.pass with
  | none => s
  | some p =>
    if p.read.get src then s
    else
      let p' : Pass :=
        if Config.freeOrder s.free then { p with read := p.read.set src true }
        else ({ p with peers := p.peers.set src (s.claimant src) } : Pass).reviewed s.straps.watts
      { s with free := s.free + 1, lau := { s.lau with pass := some p' } }

/-- R125: whether the group target of pan `p` may stand above 0 when a pass ends. -/
def State.mayHeat (s : State) (allOff : Bool) (p : Nat) : Bool :=
  match s.record? p with
  | some r =>
    r.state == .heating && s.lau.present && s.lau.enable && !(allOff && r.level == 0)
  | none => false

/-- R120, R125, R126: a group of a pass as handed on at the end of the pass, with its members as they have followed
the drivability of the own coils. -/
def State.handOn (s : State) (p : Pass) (g : Group) : Group :=
  let may := s.mayHeat p.allOff g.id
  { id := g.id
    members := .ofFn fun c => g.members.get c && (s.groupMembers g.id).get c
    target := if may then g.target else 0
    scaled := if may && s.mayClaim then g.scaled else 0 }

/-- R156: the drive unit takes one group of a pass. -/
def State.takeGroup (g : Group) (s : State) : State :=
  match s.drv.records.find? fun r => r.id == g.id && r.state != .ending with
  | none =>
    if g.scaled = 0 then s
    else { s with drv := { s.drv with records := s.drv.records ++
      [{ id := g.id, state := .waiting, members := g.members, target := g.scaled, n := 0, offset := 0
         offsetPending := none, sum := 0, on := false, period := none, begun := 0, endedAt := none }] } }
  | some r =>
    if g.scaled = 0 then s.targetZero g.id
    else
      let s₁ : State := { s with drv := { s.drv with records := s.drv.records.map fun x =>
        if x.id = g.id ∧ x.state ≠ .ending then { x with target := g.scaled } else x } }
      let s₂ := eachOfEight
        (fun c s => if !r.members.get c && g.members.get c then s.joinGroup c g.id else s) s₁
      eachOfEight (fun c s => if r.members.get c && !g.members.get c then s.leaveGroup c g.id else s) s₂

/-- R156: the drive unit takes the groups of a pass; records not among them take a target of 0. -/
def State.takeGroups (gs : List Group) (s : State) : State :=
  let missing := (s.drv.records.filter fun r => r.state != .ending && !gs.any fun g => g.id == r.id).map (·.id)
  gs.foldl (fun s g => s.takeGroup g) (missing.foldl (fun s p => s.targetZero p) s)

/-- R121: the pan targets of the pass that ends are stored with their records. -/
def PanRecord.storeTarget (r : PanRecord) : PanRecord := { r with tp := r.tpNext, tpNext := none }

/-- R120: the allocation pass ends; pan and group targets, demand and claim replace the old ones together. -/
def State.endPass (s : State) : State :=
  match s.lau.pass with
  | none => s
  | some p =>
    let gs := (p.groups.map (s.handOn p)).filter fun g => !noMembers g.members
    let s₁ : State := { s with
      ptk := { s.ptk with registry := s.ptk.registry.map PanRecord.storeTarget }
      lau := { s.lau with groups := gs, demand := p.demand, pass := none }
      bgu := { claim := if s.mayClaim then p.claim else 0 } }
    s₁.takeGroups gs

/-! ### Changes of link state (R61, R70) -/

/-- R61: every queued slot is emptied; the slot of a frame on the line is emptied when that frame ends. -/
def Tbi.emptySlots (t : Tbi) : Tbi :=
  { t with
    statusQueued := false
    slots := (t.slots.filter fun x => x.line.isSome).map fun x => { x with queued := none }
    tx := t.tx.map fun x => { x with doomed := true }
    refused := false }

/-- R107: on leaving JOINED every PAN timer and mark is dropped. -/
def State.dropPanTimers (s : State) : State :=
  { s with ptk := { s.ptk with registry := s.ptk.registry.map fun (r : PanRecord) =>
      { r with period := none, spacing := none, change := false, refused := false } } }

/-- R62: a report tick queues the STATUS and begins an allocation pass. -/
def State.reportNow (s : State) : State :=
  let s₁ : State := { s with tbi := { s.tbi with report := some 0, statusQueued := true } }
  s₁.startPass

/-- R107: a request for every held record, in increasing ID. -/
def State.requestAll (s : State) : State :=
  ((s.ptk.registry.filter fun r => r.role == .held).map (·.id)).foldl (fun s p => s.requestPan p) s

/-- R65: the station joins at the first instant at which all three conditions hold. -/
def State.joinCheck (s : State) : State :=
  if s.tbi.link = .listen ∧ s.tbi.listenEnded ∧ s.mtu.mains = .ok ∧ (eight.all fun c => (s.prb.coils.get c).firstResult)
  then
    let s₁ : State := { s with tbi := { s.tbi with link := .joined, listen := none, silence := 0, stall := 0 } }
    ((s₁.requestAll).reportNow).trigger
  else s

/-- R128, R160: every group of the station ends. -/
def State.endGroups (s : State) : State := { s with lau := { s.lau with groups := [] } }

/-- R120, R121: what an allocation pass holds until its end is given up. -/
def State.dropPass (s : State) : State :=
  { s with
    lau := { s.lau with pass := none }
    ptk := { s.ptk with registry := s.ptk.registry.map fun (r : PanRecord) => { r with tpNext := none } } }

/-- R66, R70, R128: entry into ISOLATED. -/
def State.enterIsolated (s : State) : State :=
  let s₁ : State := { s with tbi := { s.tbi.emptySlots with link := .isolated, heardOther := false, ownSent := false } }
  (((s₁.dropPanTimers).claimZero).driveEnd).endGroups.statusChange

/-- R68, R69, R70, R128: entry into CONFLICT, in which no pass runs. -/
def State.enterConflict (s : State) : State :=
  if s.tbi.link = .conflict then s
  else
    let s₁ : State := { s with tbi := { s.tbi.emptySlots with
      link := .conflict, listen := none, report := none, conflict := some 0
      spacing := none, change := false, statusQueued := true } }
    ((s₁.dropPanTimers).claimZero).driveEnd.endGroups.dropPass

/-- R81, R84: the notice to the pan tracker for station `st`, which was fresh in `before` and has become stale. -/
def State.expiryNotice (before : State) (st : Fin 8) (s : State) : State :=
  if st ≠ before.station ∧ before.svw.fresh.get st then s.trigger else s

/-- R67, R70, R84, R112, R128: entry into LISTEN from ISOLATED, with one expiry for each station that was fresh. -/
def State.enterListen (s : State) : State :=
  let heard := (s.ptk.registry.filter fun r => r.role == .heard).map (·.id)
  let s₁ : State := { s with
    tbi := { s.tbi.emptySlots with
      link := .listen, listen := some 0, listenEnded := false, report := none, spacing := none, change := false }
    svw := { s.svw with rows := .all .reset, ages := .all none, fresh := .all false }
    lau := { s.lau with groups := [], demand := 0, pass := none }
    bgu := { claim := 0 }
    ptk := { s.ptk with registry := s.ptk.registry.map fun (r : PanRecord) => { r with tp := none, tpNext := none } } }
  let s₂ := eachOfEight (State.expiryNotice s) s₁
  ((heard.foldl (fun s p => s.dropRecord p) s₂).trigger).refreshPeriod

/-- R67: an isolated station that has heard another and sent an own STATUS enters LISTEN. -/
def State.isolationCheck (s : State) : State :=
  if s.tbi.link = .isolated ∧ s.tbi.heardOther ∧ s.tbi.ownSent then s.enterListen else s

/-! ### The frame of a command -/

/-- Every command but those of reset: nothing happens in reset (R11); otherwise the time since the command before
passes and then the event acts. -/
def State.running (dt : Nat) (event : State → State) (s : State) : State :=
  if s.inReset then s else event (s.advance dt)

end Sys2Proof.Machine
end

