-- ==== Sys2Proof/Machine/Bus.lean ====
section
/-!
DEFINITION. Own frames on the line (R50 to R53, R58 to R61, R64, R82, R83), the timers of the tile bus interface
(R62 to R69) and the idle line.
-/

namespace Sys2Proof.Machine

/-- R64, R82, R83: the content of the own STATUS as it stands. -/
def State.statusContent (s : State) : StatusContent :=
  { seq := s.tbi.seq
    conflict := s.tbi.link == .conflict
    protection := s.prt.state
    gateGood := s.prt.gateGood
    mains := s.mtu.mains
    quiet := s.prb.quiet
    cause := s.cause
    supply := s.straps.supply
    budget := s.straps.budget.val
    applied := s.fqu.sApp
    claim := if s.mayClaim then s.bgu.claim else 0
    demand := if s.mayClaim then min 4095 s.lau.demand else 0
    limit := s.fqu.limit
    want := s.fqu.want
    discards := s.tbi.discards
    coils := .ofFn fun c =>
      let e := s.ownEntry c
      { e with driving := e.driving && s.tbi.link == .joined } }

/-- R178: the own STATUS frame as sent. -/
def State.statusFrame (s : State) : List Byte := frameOf 3 s.station.val (encodeStatus s.statusContent)

/-- R178: an own PAN frame as sent. -/
def State.panFrame (s : State) (c : PanContent) : List Byte := frameOf 2 s.station.val (encodePan c)

/-- R60: the PAN slot the station contends with, and its content: the earliest queued in the contention order. -/
def Tbi.nextSlot (t : Tbi) : Option (Nat × PanContent) := t.slots.findSome? fun x => x.queued.map fun c => (x.id, c)

/-- R58: the slot of pan `p` after its content has gone on the line. -/
def PanSlot.begin_ (x : PanSlot) : PanSlot := { x with queued := none, line := x.queued }

/-- R58: the slot after the frame on the line has ended: emptied unless content is queued. -/
def closeSlot (p : Nat) (keep : PanSlot → Option PanContent) (xs : List PanSlot) : List PanSlot :=
  xs.filterMap fun x =>
    if x.id = p ∧ x.line.isSome then
      (keep x).map fun c => { x with queued := some c, line := none }
    else some x

/-- R60, R64: the queued frame with the lowest arbitration value begins: an own PAN frame before the STATUS. -/
def State.beginFrame (s : State) : State :=
  match s.tbi.nextSlot with
  | some (p, c) =>
    { s with tbi := { s.tbi with
      rx := .waitIdle
      tx := some { pan := some p, frame := s.panFrame c, doomed := false }
      slots := s.tbi.slots.map fun y => if y.id = p then y.begin_ else y } }
  | none =>
    if s.tbi.statusQueued then
      { s with tbi := { s.tbi with
        rx := .waitIdle
        tx := some { pan := none, frame := s.statusFrame, doomed := false }
        statusQueued := false, change := false } }
    else s

/-- TRANSMIT_START (R50, R60): at an idle line the station begins its frame; where it has read another station's start
bit before, it does not begin and receives that frame. -/
def execTransmitStart (start : StartTime) (s : State) : Host.Outcome State Fault Refusal :=
  .next (s.running start.dt fun s =>
    if s.tbi.rx = .idle ∧ s.tbi.tx.isNone then
      if start.heard then { s with tbi := { s.tbi with rx := .receiving } } else s.beginFrame
    else s)

/-- R53, R64, R66, R67: an own STATUS has been sent. -/
def Tbi.statusSent (t : Tbi) : Tbi :=
  { t with
    tx := none, rx := .waitIdle
    seq := (t.seq + 1) % 256
    spacing := some 0, stall := 0
    ownSent := t.ownSent || t.link == .isolated }

/-- R53, R58, R66: an own PAN frame has been sent. -/
def Tbi.panSent (p : Nat) (t : Tbi) : Tbi :=
  { t with tx := none, rx := .waitIdle, stall := 0, slots := closeSlot p (·.queued) t.slots }

/-- TRANSMIT_SUCCESS (R53): the slot empties, or takes the content that waits; a slot that empties may be announced
(R59), and an isolated station's STATUS counts as seen (R67). -/
def execTransmitSuccess (dt : Nat) (s : State) : Host.Outcome State Fault Refusal :=
  .next (s.running dt fun s =>
    match s.tbi.tx with
    | none => s
    | some x =>
      match x.pan with
      | none => ({ s with tbi := s.tbi.statusSent } : State).isolationCheck
      | some p =>
        let s₁ : State := { s with tbi := s.tbi.panSent p }
        if s₁.tbi.slots.length < s.tbi.slots.length ∧ ¬ x.doomed then s₁.slotFree else s₁)

/-- R52, R53, R58, R61: an own frame ends without success: its slot is queued again, or emptied when it was to be; the
station receives the rest of the frame. -/
def Tbi.sendFailed (x : Tx) (t : Tbi) : Tbi :=
  match x.pan with
  | none => { t with tx := none, rx := .receiving, statusQueued := t.statusQueued || !x.doomed }
  | some p =>
    { t with
      tx := none, rx := .receiving
      slots := closeSlot p (fun y => y.queued.orElse fun _ => if x.doomed then none else y.line) t.slots }

/-- TRANSMIT_MISMATCH (R53). -/
def execTransmitMismatch (dt : Nat) (s : State) : Host.Outcome State Fault Refusal :=
  .next (s.running dt fun s =>
    match s.tbi.tx with
    | none => s
    | some x => { s with tbi := s.tbi.sendFailed x })

/-- ARBITRATION_LOST (R52). -/
def execArbitrationLost (dt : Nat) (s : State) : Host.Outcome State Fault Refusal :=
  .next (s.running dt fun s =>
    match s.tbi.tx with
    | none => s
    | some x => { s with tbi := s.tbi.sendFailed x })

/-- LINE_IDLE (R50, R54, R71): the line has become idle (`idleAfter`), and the receiver may take a start bit as the start
of a frame. -/
def execLineIdle (dt : Nat) (s : State) : Host.Outcome State Fault Refusal :=
  .next (s.running dt fun s =>
    if s.tbi.rx = .waitIdle ∧ s.tbi.tx.isNone then { s with tbi := { s.tbi with rx := .idle } } else s)

/-- REPORT_TICK (R62, R120): every 100 ms in JOINED and ISOLATED. -/
def execReportTick (dt : Nat) (s : State) : Host.Outcome State Fault Refusal :=
  .next (s.running dt fun s =>
    if (s.tbi.link = .joined ∨ s.tbi.link = .isolated) ∧ s.tbi.report = some 100 then s.reportNow else s)

/-- SPACING_TIMER_END (R63): with the change mark set and the slot empty the STATUS is queued. -/
def execSpacingTimerEnd (dt : Nat) (s : State) : Host.Outcome State Fault Refusal :=
  .next (s.running dt fun s =>
    if s.tbi.spacing = some 20 then
      { s with tbi := { s.tbi with
        spacing := none
        statusQueued := s.tbi.statusQueued || (s.tbi.change && !s.tbi.statusOnLine) } }
    else s)

/-- LISTEN_TIMER_END (R65). -/
def execListenTimerEnd (dt : Nat) (s : State) : Host.Outcome State Fault Refusal :=
  .next (s.running dt fun s =>
    if s.tbi.link = .listen ∧ s.tbi.listen = some 300 then
      ({ s with tbi := { s.tbi with listenEnded := true } } : State).joinCheck
    else s)

/-- SILENCE_TIMER_END (R66). -/
def execSilenceTimerEnd (dt : Nat) (s : State) : Host.Outcome State Fault Refusal :=
  .next (s.running dt fun s =>
    if s.tbi.link = .joined ∧ s.tbi.silence = 250 then s.enterIsolated else s)

/-- TRANSMIT_STALL_TIMER_END (R66). -/
def execTransmitStallTimerEnd (dt : Nat) (s : State) : Host.Outcome State Fault Refusal :=
  .next (s.running dt fun s =>
    if s.tbi.link = .joined ∧ s.tbi.stall = 250 ∧ ¬ s.tbi.allEmpty then s.enterIsolated else s)

/-- CONFLICT_REPEAT_TIMER_END (R69): the timer restarts and the STATUS slot is queued again; with a STATUS on the line
a further one waits behind it (DESIGN CHOICE, notes/assumptions/29.md). -/
def execConflictRepeatTimerEnd (dt : Nat) (s : State) : Host.Outcome State Fault Refusal :=
  .next (s.running dt fun s =>
    if s.tbi.link = .conflict ∧ s.tbi.conflict = some 1000 then
      { s with tbi := { s.tbi with conflict := some 0, statusQueued := true } }
    else s)

end Sys2Proof.Machine
end

