-- ==== Sys2Proof/Machine/Pans.lean ====
section
/-!
DEFINITION. The tracking pass (R95 to R106), received PAN frames (R109 to R111) and the timers of pan records.
-/

namespace Sys2Proof.Machine

/-! ### Stages 1 to 3 -/

/-- R96: stage 1, labels of uncovered coils and of withdrawn IDs, and the withdrawn records. -/
def State.stage1 (s : State) : State :=
  let s₁ := eachOfEight State.stripUncovered s
  let gone := (s₁.ptk.registry.filter (·.withdrawn)).map (·.id)
  let s₂ := eachOfEight (fun c s => if gone.contains (s.ptk.labels.get c) then s.setLabel c 0 else s) s₁
  gone.foldl (fun s p => s.dropRecord p) s₂

/-- R97: the fresh entries labelled `p` touch those labelled `m`. -/
def State.touches (s : State) (p m : Nat) : Bool :=
  (s.labelled p).any fun i => (s.labelled m).any (adjacent i)

/-- R97: the lowest settling ID below `p` that touches it, without a withdrawn mark. -/
def State.mergeTarget (s : State) (p : Nat) : Option Nat :=
  (s.ptk.registry.find? fun r => decide (r.id < p) && r.state == .settling && !r.withdrawn && s.touches p r.id).map
    (·.id)

/-- R97: pan `p`, where it still labels an own coil and is settling, is merged into the lowest ID it touches. -/
def State.mergePan (p : Nat) (s : State) : State :=
  match s.record? p, s.mergeTarget p with
  | some r, some m =>
    if r.state = .settling ∧ s.carries p then
      let s₁ := eachOfEight (fun c s => if s.ptk.labels.get c = p then s.setLabel c m else s) s
      match r.role with
      | .held => (s₁.announceGone r).dropRecord p
      | .shared => (s₁.writeRecord { r with role := .heard }).dropIfExpired p
      | .heard => s₁
    else s
  | _, _ => s

/-- R97: stage 2, the settling merge, in increasing ID. -/
def State.stage2 (s : State) : State := (s.ptk.registry.map (·.id)).foldl (fun s p => s.mergePan p) s

/-- The IDs that label own coils, in increasing order. -/
def State.ownIds (s : State) : List Nat := (List.range 128).filter fun p => p != 0 && s.carries p

/-- R98: own coils labelled `p` that are not joined to the lowest coil labelled `p`. -/
def State.disjoined (s : State) (p : Nat) : List (Fin 8) :=
  let joined := s.joinedToLowest p
  eight.filter fun c => s.ptk.labels.get c == p && !joined.contains (s.ownIndex c)

/-- R98: stage 3, the connectivity strip; also the coils it stripped, each with the ID it lost. -/
def State.stage3 (s : State) : State × List (Fin 8 × Nat) :=
  s.ownIds.foldl (fun x p =>
    let cs := x.1.disjoined p
    (cs.foldl (fun s c => s.setLabel c 0) x.1, x.2 ++ cs.map fun c => (c, p))) (s, [])

/-! ### Stage 4, propagation -/

/-- R99: the labels of the fresh entries adjacent to own coil `c`, one per entry. A received label that is a multiple of
16 other than 0 counts as an ID (DESIGN CHOICE, notes/assumptions/36.md). -/
def State.adjacentLabels (s : State) (c : Fin 8) : List Nat :=
  ((surface.filter (adjacent (s.ownIndex c))).map fun i => (s.entry i).label).filter (· != 0)

/-- R99: of two candidates, the one carried by more entries, then the lower ID. -/
def ranksBefore (ls : List Nat) (p q : Nat) : Bool :=
  decide (ls.count q < ls.count p ∨ (ls.count q = ls.count p ∧ p < q))

/-- Insert a candidate in rank order, once. -/
def insertRanked (ls : List Nat) (p : Nat) : List Nat → List Nat
  | [] => [p]
  | q :: qs => if p = q then q :: qs else if ranksBefore ls p q then p :: q :: qs else q :: insertRanked ls p qs

/-- R99: the candidate labels of own coil `c`, best first. -/
def State.candidates (s : State) (c : Fin 8) : List Nat :=
  let ls := s.adjacentLabels c
  ls.foldl (fun acc p => insertRanked ls p acc) []

/-- R98: a coil stripped of `p` in this pass takes `p` only when joined to the lowest coil by coils labelled since. -/
def State.rejoins (s : State) (stripped : List (Fin 8 × Nat)) (c : Fin 8) (p : Nat) : Bool :=
  !stripped.contains (c, p) || (s.joinedToLowest p).any (adjacent (s.ownIndex c))

/-- R99: a candidate that is not passed over. -/
def State.usable (s : State) (p : Nat) : Bool :=
  match s.record? p with
  | some r => r.state != .lifted && !r.withdrawn
  | none => s.canStore

/-- R99, R100: the growth test of candidate `p` for own coil `c`; a settling pan, or one with no record, passes. -/
def State.growthTest (s : State) (c : Fin 8) (p : Nat) : Bool :=
  match s.record? p with
  | some r => r.state == .settling || decide (s.panWeight p + (s.prb.coils.get c).q ≤ r.ws + 4)
  | none => true

/-- R100: the record stored for a candidate that has none. -/
def State.sharedRecord (s : State) (p : Nat) : PanRecord :=
  let lowest := (s.labelled p).headD 0
  { id := p, role := .shared, holder := ownerOf lowest, state := .settling, level := 0, anchor := lowest
    box := none, wp := 0, ws := 0, settle := none, stable := none, lifted := none, age := 0, withdrawn := false
    period := none, spacing := none, change := false, refused := false, requested := none, tp := none, tpNext := none }

/-- R99: own coil `c` takes the first candidate that is usable and passes. -/
def State.propagate (stripped : List (Fin 8 × Nat)) (c : Fin 8) (s : State) : State :=
  if s.ptk.labels.get c = 0 ∧ (s.ownEntry c).covered then
    match (s.candidates c).find? fun p => s.rejoins stripped c p && s.usable p && s.growthTest c p with
    | none => s
    | some p =>
      let s₁ := if (s.record? p).isNone then s.storeRecord (s.sharedRecord p) else s
      s₁.setLabel c p
  else s

/-- R99: sweeps over the own coils until one labels none, at most `fuel` of them. -/
def State.sweeps (stripped : List (Fin 8 × Nat)) : Nat → State → State
  | 0, s => s
  | fuel + 1, s =>
    let s' := eachOfEight (fun c s => s.propagate stripped c) s
    if s'.ptk.labels = s.ptk.labels then s' else State.sweeps stripped fuel s'

/-! ### Stage 5, clusters -/

/-- R102: a lifted record within reach of a cluster whose lowest coil is `i`. -/
def PanRecord.inReach (i : Nat) (r : PanRecord) : Bool :=
  r.state == .lifted && !r.withdrawn && decide (chebyshev r.anchor i ≤ 2)

/-- R102: the lifted record within reach whose anchor is nearest, ties to the lower ID. -/
def State.resumable (s : State) (i : Nat) : Option PanRecord :=
  (s.ptk.registry.filter (PanRecord.inReach i)).foldl
    (fun m r => match m with
      | none => some r
      | some x => if chebyshev r.anchor i < chebyshev x.anchor i then some r else some x) none

/-- R102, R103: the own coils of a cluster take a label. -/
def State.labelCluster (xs : List Nat) (p : Nat) (s : State) : State :=
  eachOfEight (fun c s => if xs.contains (s.ownIndex c) then s.setLabel c p else s) s

/-- R102: a cluster resumes the pan of record `r`. -/
def State.resume (xs : List Nat) (r : PanRecord) (s : State) : State :=
  let r' : PanRecord :=
    { r with
      state := if r.level = 0 then .idle else .heating
      lifted := none
      stable := if r.role = .held then some 0 else r.stable }
  (s.putRecord r').labelCluster xs r.id

/-- R86: the next sequence value whose ID no record holds. -/
def State.nextSequence (s : State) : Option Nat :=
  ((List.range 15).map fun k => (s.ptk.seq + k) % 15 + 1).find? fun v =>
    (s.record? (16 * s.station.val + v)).isNone

/-- R103: the record of a new pan whose lowest coil is `i`. -/
def State.newRecord (s : State) (p i : Nat) : PanRecord :=
  { id := p, role := .held, holder := s.station, state := .settling, level := 0, anchor := i
    box := none, wp := 0, ws := 0, settle := some 0, stable := none, lifted := none, age := 0, withdrawn := false
    period := none, spacing := none, change := false, refused := false, requested := none, tp := none, tpNext := none }

/-- R103: a cluster with lowest coil `i` becomes a new pan, or its creation is deferred. Whether the sequence moves
when the record cannot be stored is left open (notes/assumptions/5.md). -/
def State.createPan (xs : List Nat) (i : Nat) (s : State) : State :=
  match s.nextSequence with
  | none => s
  | some v =>
    let p := 16 * s.station.val + v
    if s.canStore then
      let s₁ : State := { s with ptk := { s.ptk with seq := v } }
      (s₁.storeRecord (s.newRecord p i)).labelCluster xs p
    else
      { s with
        free := s.free + 1
        ptk := { s.ptk with seq := if Config.freeOrder s.free then v else s.ptk.seq } }

/-- R101: the cluster whose lowest coil is own coil `c`, if it is one, is resumed, created or left as fringe. -/
def State.considerCluster (c : Fin 8) (s : State) : State :=
  let i := s.ownIndex c
  if s.unlabelledCovered i then
    let xs := s.cluster i
    if xs.all (fun j => decide (i ≤ j)) && decide (3 ≤ s.clusterWeight xs) then
      match s.resumable i with
      | some r => s.resume xs r
      | none => s.createPan xs i
    else s
  else s

/-- R101: stage 5 runs only while the link state is JOINED. -/
def State.stage5 (s : State) : State :=
  if s.tbi.link = .joined then eachOfEight State.considerCluster s else s

/-! ### Stages 6 and 7 -/

/-- R104, R105, R94: a record whose pan has a footprint with lowest coil `i`. -/
def State.footprintRecord (s : State) (i : Nat) (r : PanRecord) : PanRecord :=
  let w := s.panWeight r.id
  let base : PanRecord := { r with anchor := i, box := s.boxOf r.id, wp := w }
  if ownerOf i = s.station then
    if r.role = .held then
      let restarts : Bool := (r.state == .idle || r.state == .heating) && w != r.wp
      { base with holder := s.station, stable := if restarts then some 0 else r.stable }
    else base.takeHolding s.station
  else
    let kept := if r.role = .held then base.giveUp else base
    { kept with holder := ownerOf i, role := if s.carries r.id then .shared else .heard }

/-- R91, R93, R104: a record whose pan has no footprint. The GONE of a SETTLING pan carries the W_p held before stage 6
(DESIGN CHOICE, notes/assumptions/25.md). -/
def State.emptyFootprint (r : PanRecord) (s : State) : State :=
  let r' : PanRecord := { r with wp := 0 }
  match r.role with
  | .held =>
    match r.state with
    | .settling => (s.announceGone r).dropRecord r.id
    | .lifted => s.putRecord r'
    | .idle => s.putRecord { r' with state := .lifted, lifted := some 0, stable := none }
    | .heating => s.putRecord { r' with state := .lifted, lifted := some 0, stable := none }
  | .shared => (s.putRecord { r' with role := .heard }).dropIfExpired r.id
  | .heard => s.putRecord r'

/-- R104: stage 6 on one record. -/
def State.updateRecord (p : Nat) (s : State) : State :=
  match s.record? p with
  | none => s
  | some r =>
    match s.footprint p with
    | i :: _ => (s.putRecord (s.footprintRecord i r)).dropIfExpired p
    | [] => s.emptyFootprint r

/-- R104: stage 6, every record in turn, in increasing pan ID (DESIGN CHOICE, notes/assumptions/32.md). -/
def State.stage6 (s : State) : State := (s.ptk.registry.map (·.id)).foldl (fun s p => s.updateRecord p) s

/-- R106: stage 7, a PAN change for each held record that differs from what was last requested, in increasing pan ID
(DESIGN CHOICE, notes/assumptions/32.md). -/
def State.stage7 (s : State) : State :=
  ((s.ptk.registry.filter fun r => r.role == .held && r.requested != some r.facts).map (·.id)).foldl
    (fun s p => s.panChange p) s

/-- R95: the pass ends; with the further-pass mark set one further pass starts. -/
def State.endTracking (s : State) : State :=
  { s with ptk := { s.ptk with running := s.ptk.further, further := false } }

/-- R95 to R106: the seven stages in order. -/
def State.trackingPass (s : State) : State :=
  let (s₃, stripped) := s.stage1.stage2.stage3
  ((s₃.sweeps stripped 9).stage5.stage6.stage7).endTracking

/-- TRACKING_PASS (R95): a pass that has started runs whole; without a trigger there is none to run. -/
def execTrackingPass (dt : Nat) (samples : Oct (List Sample)) (s : State) : Host.Outcome State Fault Refusal :=
  .next (s.running dt fun s =>
    let s₁ := s.takeSamples samples
    if s₁.ptk.running then s₁.trackingPass else s₁)

/-! ### Received PAN frames -/

/-- R109, R111: a record with what a frame of station `src` in state `st` gives. -/
def PanRecord.adopt (c : PanContent) (st : PanState) (src : Fin 8) (r : PanRecord) : PanRecord :=
  { r with state := st, level := c.level, anchor := c.anchor, box := c.box, ws := c.ws, holder := src, age := 0 }

/-- R109: the HEARD record stored for a frame whose ID has none. -/
def heardRecord (c : PanContent) (st : PanState) (src : Fin 8) : PanRecord :=
  { id := c.id, role := .heard, holder := src, state := st, level := c.level, anchor := c.anchor
    box := c.box, wp := 0, ws := c.ws, settle := none, stable := none, lifted := none, age := 0
    withdrawn := false, period := none, spacing := none, change := false, refused := false
    requested := none, tp := none, tpNext := none }

/-- R111: station `src`'s frame wins the contest for record `r`. -/
def State.losesTo (s : State) (c : PanContent) (src : Fin 8) (r : PanRecord) : Bool :=
  decide (c.anchor < r.anchor) ||
    (c.anchor == r.anchor &&
      (ownerOf c.anchor == src || (ownerOf c.anchor != s.station && decide (src < s.station))))

/-- R111: a live frame taken into a HELD record. -/
def State.contest (c : PanContent) (st : PanState) (src : Fin 8) (r : PanRecord) (s : State) : State :=
  if st = .lifted ∧ r.state ≠ .lifted then s.writeRecord { r with age := 0 }
  else if r.state = .lifted ∧ (st = .idle ∨ st = .heating) then
    s.putRecord { r.giveUp.adopt c st src with role := .heard }
  else if s.losesTo c src r then
    s.putRecord { r.giveUp.adopt c st src with role := if s.carries r.id then .shared else .heard }
  else (s.writeRecord { r with age := 0 }).panChange r.id

/-- R109 to R111: an accepted PAN frame of station `src`; one for pan ID 0 is ignored (R56). -/
def State.takePan (c : PanContent) (src : Fin 8) (s : State) : State :=
  if c.id = 0 then s
  else
    match s.record? c.id, c.code with
    | none, .gone => s
    | none, .live st => s.storeRecord (heardRecord c st src)
    | some r, .gone =>
      if r.role = .held then s.writeRecord { r with age := 0 }
      else if s.carries c.id then (s.writeRecord { r with age := 0, withdrawn := true }).trigger
      else s.dropRecord c.id
    | some r, .live st =>
      if r.role = .held then s.contest c st src r
      else s.putRecord { r.adopt c st src with withdrawn := false }

/-! ### Timers of records -/

/-- SETTLE_TIMER_END (R91): the pan enters IDLE or HEATING, Ws takes W_p and the stable timer starts. The timer's end and
the change of state are one trigger (DESIGN CHOICE, notes/assumptions/31.md). -/
def execSettleTimerEnd (dt p : Nat) (s : State) : Host.Outcome State Fault Refusal :=
  .next (s.running dt fun s =>
    match s.held? p with
    | some r =>
      if r.state = .settling ∧ r.settle = some 1000 then
        let r' : PanRecord :=
          { r with state := if r.level = 0 then .idle else .heating, ws := r.wp, settle := none, stable := some 0 }
        (s.putRecord r').panChange p
      else s
    | none => s)

/-- STABLE_TIMER_END (R94): Ws takes W_p; a change of it is a PAN change. -/
def execStableTimerEnd (dt p : Nat) (s : State) : Host.Outcome State Fault Refusal :=
  .next (s.running dt fun s =>
    match s.held? p with
    | some r =>
      if (r.state = .idle ∨ r.state = .heating) ∧ r.stable = some 1000 then
        let s₁ := (s.writeRecord { r with ws := r.wp, stable := none }).trigger
        if r.ws = r.wp then s₁ else s₁.panChange p
      else s
    | none => s)

/-- LIFTED_TIMER_END (R93): the pan is announced GONE and its record removed. The timer's end and the removal are one
trigger (DESIGN CHOICE, notes/assumptions/31.md). -/
def execLiftedTimerEnd (dt p : Nat) (s : State) : Host.Outcome State Fault Refusal :=
  .next (s.running dt fun s =>
    match s.held? p with
    | some r =>
      if r.state = .lifted ∧ r.lifted = some 6000 then (s.announceGone r).dropRecord p else s
    | none => s)

/-- LAST_HEARD_AGE_EXPIRY (R90): a HEARD record is removed. -/
def execLastHeardAgeExpiry (dt p : Nat) (s : State) : Host.Outcome State Fault Refusal :=
  .next (s.running dt fun s =>
    match s.record? p with
    | some r => if r.role = .heard ∧ 1000 ≤ r.age then s.dropRecord p else s
    | none => s)

/-- PAN_PERIOD_TIMER_END (R107): a request is made; the timer restarts when it is taken. -/
def execPanPeriodTimerEnd (dt p : Nat) (s : State) : Host.Outcome State Fault Refusal :=
  .next (s.running dt fun s =>
    match s.held? p with
    | some r =>
      if r.period = some 250 then (s.writeRecord { r with period := none }).requestPan p else s
    | none => s)

/-- PAN_SPACING_TIMER_END (R107): the timer stops, and with the change mark set a request is made. -/
def execPanSpacingTimerEnd (dt p : Nat) (s : State) : Host.Outcome State Fault Refusal :=
  .next (s.running dt fun s =>
    match s.held? p with
    | some r =>
      if r.spacing = some 20 then
        let s₁ := s.writeRecord { r with spacing := none, change := false }
        if r.change then s₁.requestPan p else s₁
      else s
    | none => s)

end Sys2Proof.Machine
end

