-- ==== Sys2Proof/Machine/Frames.lean ====
section
/-!
DEFINITION. Received frames: the receive checks and the hand-on (R54 to R57, R67, R68), ALL_OFF, LEVEL, PAN, STATUS
and BEACON, a cut frame, and the ages of stations and of the panel (R76, R115).
-/

namespace Sys2Proof.Machine

/-- R55: a frame is discarded and counted. -/
def State.discard (s : State) : State := { s with tbi := { s.tbi with discards := min 255 (s.tbi.discards + 1) } }

/-- R57, R66, R67: a frame has been accepted from another station. -/
def State.heardFrame (s : State) : State :=
  { s with tbi := { s.tbi with
    silence := if s.tbi.link = .joined then 0 else s.tbi.silence
    heardOther := s.tbi.heardOther || s.tbi.link == .isolated } }

/-- R57, R67, R84: an accepted frame is handed on; where it is the frame that brings an isolated station to LISTEN,
frame and entry may be taken in either order (notes/assumptions/5.md). -/
def State.handFrame (act : State → State) (s : State) : State :=
  let s₁ := s.heardFrame
  if s₁.tbi.link = .isolated ∧ s₁.tbi.ownSent then
    let s₂ : State := { s₁ with free := s₁.free + 1 }
    if Config.freeOrder s₁.free then act s₂.isolationCheck else (act s₂).isolationCheck
  else act s₁

/-- R54, R55, R57: a complete frame of the panel's classes arrives; a receiver that waits for an idle line has not
seen its start. -/
def State.fromPanel (cls : Nat) (env : Envelope) (payload : List Byte) (act : State → State) (s : State) : State :=
  if s.tbi.rx = .waitIdle then s
  else
    let s₁ : State := { s with tbi := { s.tbi with rx := .waitIdle } }
    if checkMatches cls env payload ∧ env.source = 15 then s₁.handFrame act else s₁.discard

/-- R54, R55, R57, R68: a complete frame of the tile controllers' classes arrives. -/
def State.fromTile (cls : Nat) (env : Envelope) (payload : List Byte) (act : Fin 8 → State → State) (s : State) :
    State :=
  if s.tbi.rx = .waitIdle then s
  else
    let s₁ : State := { s with tbi := { s.tbi with rx := .waitIdle } }
    if checkMatches cls env payload ∧ env.source.val < 8 then
      let src : Fin 8 := Fin.ofNat 8 env.source.val
      if src = s.station then s₁.enterConflict else s₁.handFrame (act src)
    else s₁.discard

/-- FRAME_CUT (R54, R55): also a frame of class 5 to 7, at the stop bit of its arbitration byte. -/
def execFrameCut (dt : Nat) (s : State) : Host.Outcome State Fault Refusal :=
  .next (s.running dt fun s =>
    if s.tbi.rx = .waitIdle then s
    else ({ s with tbi := { s.tbi with rx := .waitIdle } } : State).discard)

/-! ### Frames of the panel -/

/-- R119: every level becomes 0 and every group target is forced to 0. The held records take their PAN changes in
increasing pan ID (DESIGN CHOICE, notes/assumptions/32.md). -/
def State.allOff (s : State) : State :=
  let held := (s.ptk.registry.filter fun r => r.role == .held).map (·.id)
  let s₁ : State := { s with
    ptk := { s.ptk with registry := s.ptk.registry.map fun (r : PanRecord) =>
      if r.role = .held then r else { r with level := 0 } }
    lau := { s.lau with pass := s.lau.pass.map fun p => { p with allOff := true } } }
  (held.foldl (fun s p => s.writeHeldLevel 0 p) s₁).forceZeroAll

/-- ALL_OFF (R119). -/
def execAllOff (dt : Nat) (env : Envelope) (s : State) : Host.Outcome State Fault Refusal :=
  .next (s.running dt fun s => s.fromPanel 0 env [] State.allOff)

/-- R117: a level for pan `p`; it reaches a HELD record only, an ID that is 0, a multiple of 16 or above 127 matches
none, and the level that the record already has changes nothing (DEDUCED against R92, notes/assumptions/30.md). -/
def State.takeLevel (p level : Nat) (s : State) : State :=
  if p % 16 = 0 ∨ 127 < p ∨ (s.held? p).any (·.level == level) then s else s.writeHeldLevel level p

/-- LEVEL (R117). -/
def execLevel (dt : Nat) (env : Envelope) (payload : Vector Byte 2) (s : State) : Host.Outcome State Fault Refusal :=
  .next (s.running dt fun s =>
    let d := decodeLevel payload.toList
    s.fromPanel 1 env payload.toList (State.takeLevel d.1 d.2))

/-- R114, R116: the panel is present with the enable of its BEACON; an enable that falls forces every target to 0. -/
def State.takeBeacon (enable : Bool) (s : State) : State :=
  let s₁ : State := { s with lau := { s.lau with panelAge := some 0, present := true, enable := enable } }
  if s.lau.enable ∧ ¬ enable then s₁.forceZeroAll else s₁

/-- BEACON (R114). -/
def execBeacon (dt : Nat) (env : Envelope) (payload : Vector Byte 2) (s : State) : Host.Outcome State Fault Refusal :=
  .next (s.running dt fun s => s.fromPanel 4 env payload.toList (State.takeBeacon (decodeEnable payload.toList)))

/-- PANEL_AGE_EXPIRY (R115): the panel becomes absent; held levels and the enable go to 0, and targets are forced
to 0. The held records take their PAN changes in increasing pan ID (DESIGN CHOICE, notes/assumptions/32.md). -/
def execPanelAgeExpiry (dt : Nat) (s : State) : Host.Outcome State Fault Refusal :=
  .next (s.running dt fun s =>
    if s.lau.present ∧ s.lau.panelAge = some 1000 then
      let held := (s.ptk.registry.filter fun r => r.role == .held).map (·.id)
      let s₁ : State := { s with lau := { s.lau with present := false, enable := false } }
      (held.foldl (fun s p => s.writeHeldLevel 0 p) s₁).forceZeroAll
    else s)

/-! ### Frames of tile controllers -/

/-- PAN (R109). -/
def execPan (dt : Nat) (env : Envelope) (payload : Vector Byte 10) (s : State) : Host.Outcome State Fault Refusal :=
  .next (s.running dt fun s =>
    s.fromTile 2 env payload.toList fun src s => s.takePan (decodePan payload.toList) src)

/-- R81: the writing of a STATUS of station `src` changes coverage, label or freshness of an entry. -/
def State.viewChanges (s : State) (src : Fin 8) (es : Oct Entry) : Bool :=
  !s.svw.fresh.get src || eight.any fun c =>
    let old := (s.svw.entries.get src).get c
    old.q != (es.get c).q || old.label != (es.get c).label

/-- R74, R76, R81, R45, R47, R131: an accepted STATUS of station `src` is written into the view, the notices are given,
and a review in progress may read the new row. -/
def State.takeStatus (d : StatusContent) (src : Fin 8) (s : State) : State :=
  let changes := s.viewChanges src d.coils
  let s₁ : State := { s with svw :=
    { entries := s.svw.entries.set src d.coils
      rows := s.svw.rows.set src (rowOf d)
      ages := s.svw.ages.set src (some 0)
      fresh := s.svw.fresh.set src true } }
  let s₂ := if changes then (s₁.reviewAfterWrite src).trigger else s₁.reviewAfterWrite src
  let s₃ : State :=
    if s₂.borderCovered then ({ s₂ with prb := { s₂.prb with quietTimer := 0 } } : State).leaveQuiet else s₂
  s₃.refreshPeriod

/-- STATUS (R74). -/
def execStatus (dt : Nat) (env : Envelope) (payload : Vector Byte 35) (s : State) : Host.Outcome State Fault Refusal :=
  .next (s.running dt fun s =>
    s.fromTile 3 env payload.toList fun src s => s.takeStatus (decodeStatus payload.toList) src)

/-- STATION_AGE_EXPIRY (R76, R81): the row and the eight entries of a station become stale together. -/
def execStationAgeExpiry (dt : Nat) (st : Fin 8) (s : State) : Host.Outcome State Fault Refusal :=
  .next (s.running dt fun s =>
    if s.svw.fresh.get st ∧ s.svw.ages.get st = some 350 then
      let s₁ : State := { s with svw := { s.svw with fresh := s.svw.fresh.set st false } }
      s₁.trigger.refreshPeriod
    else s)

end Sys2Proof.Machine
end

