-- ==== Sys2Proof/Machine/Drive.lean ====
section
/-!
DEFINITION. Switching periods and commutation margins (R143 to R146, R163 to R166), the window end (R150, R167, R168)
and the start of groups (R157); SWITCHING_PERIOD_START and the spans of the half-cycle.
-/

namespace Sys2Proof.Machine

/-! ### Switching periods -/

/-- R165: an own coil may switch in a period of a group it is a member of that is ON. -/
def State.maySwitch (s : State) (c : Fin 8) : Bool :=
  s.mayDrive && s.drivable c && !(s.drv.coils.get c).stopped && (s.fqu.members.get c).isSome

/-- The record of pan `p` that is ON in the half-cycle in progress (R162, R159). -/
def State.onRecord? (s : State) (p : Nat) : Option GroupRecord :=
  s.drv.records.find? fun r => r.id == p && r.on && r.state != .waiting

/-- The microsecond timer in counts of the drive timebase (R12). -/
def State.count (s : State) : Nat := 64 * s.clock

/-- R163: the switching period in progress of a record has ended, at its last count or earlier in this microsecond. -/
def State.periodOver (s : State) (r : GroupRecord) : Bool :=
  match r.period with
  | some len => decide (r.begun + len < s.count + 64)
  | none => false

/-- R163, R164: pan `p`'s group starts a switching period, of the length R153 gives, at count `start`. -/
def State.startPeriod (p start : Nat) (s : State) : State :=
  match s.onRecord? p with
  | none => s
  | some r =>
    let len := s.switchingPeriod
    { s with drv :=
      { records := s.drv.records.map fun (x : GroupRecord) =>
          if x.id = p ∧ x.on ∧ x.state ≠ .waiting then { x with period := some len, begun := start } else x
        coils := .ofFn fun c =>
          let d := s.drv.coils.get c
          if r.members.get c then
            if s.maySwitch c then
              { d with gates := some (gateTiming len s.straps.deadTime), inPeriod := true
                       tracked := s.mtu.tracking == .running, len := len, sampled := 0 }
            else d.gatesLow
          else d } }

/-- R144: a margin added to the block, and the limit after it. -/
def Member.addMargin (m : Int) (x : Member) : Member :=
  if x.count < 3 then { x with count := x.count + 1, sum := x.sum + m }
  else
    let average := (x.sum + m) / 4
    { x with
      count := 0, sum := 0
      l := if average < 20 then max (rangeLow x.l0) (x.l - 8)
           else if 48 < average then min (rangeHigh x.l0) (x.l + 4) else x.l }

/-- R145: the member after a hard-switch event. -/
def Member.hardSwitch (x : Member) : Member :=
  { x with l := max (rangeLow x.l0) (x.l - 32), sum := 0, count := 0, negative := false, hard := min 8 (x.hard + 1) }

/-- R143 to R146: a valid margin of own coil `c`. -/
def State.takeMargin (c : Fin 8) (m : Int) (s : State) : State :=
  match s.fqu.members.get c with
  | none => s
  | some x =>
    if m < 0 ∧ x.negative then
      let y := x.hardSwitch
      let s₁ : State := { s with fqu := { s.fqu with members := s.fqu.members.set c (some y) } }
      let s₂ := (s₁.endSwitching c).refreshPeriod
      let s₃ : State := { s₂ with drv := { s₂.drv with
        coils := s₂.drv.coils.set c { s₂.drv.coils.get c with stopped := true } } }
      if y.hard = 8 then s₃.requestUnfit c true else s₃
    else
      let y := { x with negative := decide (m < 0) }.addMargin m
      ({ s with fqu := { s.fqu with members := s.fqu.members.set c (some y) } } : State).refreshPeriod

/-- R143: own coil `c` completes a switching period; its margin is taken when it is valid. Of the earlier periods of the
half-cycle only those that were completed for the coil count (DESIGN CHOICE, notes/assumptions/24.md). -/
def State.completePeriod (margins : Oct Int) (c : Fin 8) (s : State) : State :=
  let d := s.drv.coils.get c
  let s₁ : State := { s with drv := { s.drv with
    coils := s.drv.coils.set c { d with periods := d.periods + 1 } } }
  if d.tracked && s.mtu.tracking == .running && decide (4 ≤ d.periods) then s₁.takeMargin c (margins.get c) else s₁

/-- R143, R163: the period in progress of pan `p`'s record `r` is complete, and the next starts where it ended. -/
def State.nextPeriod (margins : Oct Int) (p : Nat) (r : GroupRecord) (s : State) : State :=
  let s₁ := eachOfEight
    (fun c s => if r.members.get c && (s.drv.coils.get c).inPeriod then s.completePeriod margins c else s) s
  s₁.startPeriod p (r.begun + r.period.getD 0)

/-- SWITCHING_PERIOD_START (R163): the period in progress of pan `p`'s group is complete and the next starts. It comes
only inside the drive span, to a group that is switching, at the end of the period in progress. -/
def execSwitchingPeriodStart (dt p : Nat) (samples : Oct (List Sample)) (margins : Oct Int) (s : State) :
    Host.Outcome State Fault Refusal :=
  .next (s.running dt fun s =>
    let s₁ := s.takeSamples samples
    match s₁.onRecord? p with
    | none => s₁
    | some r =>
      if s₁.mtu.drive = .running ∧ ¬ s₁.mtu.leading ∧ s₁.periodOver r then s₁.nextPeriod margins p r else s₁)

/-! ### Spans (R22 to R26) -/

/-- R26, R143: the tracking span ends, and with it every negative mark. -/
def State.closeTracking (s : State) : State :=
  { s with
    mtu := { s.mtu with tracking := .over }
    fqu := { s.fqu with members := s.fqu.members.map fun m => m.map fun x => { x with negative := false } } }

/-- R25, R163, R166: the drive span ends; every gate goes low and the half-cycle energies are completed. -/
def State.closeDrive (s : State) : State :=
  let s₁ := eachOfEight State.endSwitching s
  { s₁ with
    mtu := { s₁.mtu with drive := .over }
    drv := { s₁.drv with records := s₁.drv.records.map fun (r : GroupRecord) => { r with period := none } } }

/-- VALLEY_GAP_OPEN (R23, R175): 500 µs before the predicted next crossing every gate goes low and a temperature
conversion starts. -/
def execValleyGapOpen (dt : Nat) (s : State) : Host.Outcome State Fault Refusal :=
  .next (s.running dt fun s =>
    if s.mtu.crossed ∧ ¬ s.mtu.leading ∧ s.mtu.last + s.mtu.h ≤ s.clock + 500 then
      { s with
        mtu := { s.mtu with leading := true }
        drv := { s.drv with coils := s.drv.coils.map fun d => { d with gates := none } }
        prt := { s.prt with conversion := some s.clock } }
    else s)

/-- DRIVE_SPAN_OPEN (R25, R163): 1,500 µs after a crossing; the groups that are ON begin switching. -/
def execDriveSpanOpen (dt : Nat) (s : State) : Host.Outcome State Fault Refusal :=
  .next (s.running dt fun s =>
    if s.mtu.drive = .ahead ∧ s.mtu.last + 1500 ≤ s.clock ∧ s.clock + 500 < s.mtu.last + s.mtu.h then
      let s₁ : State := { s with mtu := { s.mtu with drive := .running } }
      (s₁.drv.records.map (·.id)).foldl (fun s p => s.startPeriod p s.count) s₁
    else s)

/-- DRIVE_SPAN_CLOSE (R25): 500 µs before the predicted next crossing. -/
def execDriveSpanClose (dt : Nat) (samples : Oct (List Sample)) (s : State) : Host.Outcome State Fault Refusal :=
  .next (s.running dt fun s =>
    let s₁ := s.takeSamples samples
    if s₁.mtu.drive = .running ∧ s₁.mtu.last + s₁.mtu.h ≤ s₁.clock + 500 then s₁.closeDrive else s₁)

/-- TRACKING_SPAN_OPEN (R26): 2,500 µs after a crossing. -/
def execTrackingSpanOpen (dt : Nat) (s : State) : Host.Outcome State Fault Refusal :=
  .next (s.running dt fun s =>
    if s.mtu.tracking = .ahead ∧ s.mtu.last + 2500 ≤ s.clock ∧ s.clock + 1500 < s.mtu.last + s.mtu.h then
      { s with mtu := { s.mtu with tracking := .running } }
    else s)

/-- TRACKING_SPAN_CLOSE (R26): 1,500 µs before the predicted next crossing. -/
def execTrackingSpanClose (dt : Nat) (s : State) : Host.Outcome State Fault Refusal :=
  .next (s.running dt fun s =>
    if s.mtu.tracking = .running ∧ s.mtu.last + s.mtu.h ≤ s.clock + 1500 then s.closeTracking else s)

/-! ### Window ends and starts -/

/-- R159: the record ended before the crossing at hand, which removes it. A record that became ENDING at the crossing's own
instant was taken first, and the following crossing removes it. -/
def State.removes (s : State) (r : GroupRecord) : Bool := r.state == .ending && r.endedAt != some s.clock

/-- R159: at a crossing the ENDING records are removed and their members leave drive. A coil that the record started beside
it lists stays a drive member (DESIGN CHOICE, notes/assumptions/26.md). -/
def State.removeEnding (s : State) : State :=
  let leaves := fun c => (s.drv.records.any fun r => s.removes r && r.members.get c)
    && !s.drv.records.any fun r => r.state == .started && r.members.get c
  let s₁ := eachOfEight (fun c s => if leaves c then s.leaveDriveMember c else s) s
  let s₂ : State := { s₁ with drv := { s₁.drv with
    records := s₁.drv.records.filter fun (r : GroupRecord) => !s.removes r } }
  s₂.refreshPeriod

/-- R167, R168: what the density loop computes for a started group at a window end: n used, e and th. -/
def GroupRecord.loop (window : Nat) (r : GroupRecord) : Nat × Int × Nat :=
  (r.n, (r.target : Int) - measuredPower r.sum window, loopThreshold r.target)

/-- R158, R167, R168: a record at the window end: a started one is corrected, its sum cleared and a pending offset
put in force. -/
def GroupRecord.windowEnd (window : Nat) (r : GroupRecord) : GroupRecord :=
  if r.state = .started then
    let g := r.loop window
    { r with n := densityAfter r.n g.2.1 g.2.2, sum := 0, offset := r.offsetPending.getD r.offset, offsetPending := none }
  else r

/-- R146, R150, R167, R168: the window of `window` microseconds ends. -/
def State.windowEnd (window : Nat) (s : State) : State :=
  let ran := (s.drv.records.filter fun r => r.state == .started).map (GroupRecord.loop window)
  let s₁ : State := { s with
    drv := { s.drv with records := s.drv.records.map (GroupRecord.windowEnd window) }
    fqu := { s.fqu with
      want := s.fqu.want.map fun w => wantAfter w ran
      members := s.fqu.members.map fun m => m.map fun x => { x with hard := 0 } } }
  s₁.refreshPeriod

/-- R157: a WAITING record starts. -/
def GroupRecord.start (st : Fin 8) (r : GroupRecord) : GroupRecord :=
  if r.state = .waiting then
    { r with state := .started, n := 2, offset := staggerOffset st r.master, offsetPending := none, sum := 0 }
  else r

/-- R157, R141, R149: at a window start the WAITING records start when the conditions hold; where no group was
started before, the want is taken from the station limit. A record that became ENDING at that very instant stands until the
next crossing and counts as started before, so the want goes on beside it (DESIGN CHOICE, notes/assumptions/35.md). -/
def State.startWaiting (s : State) : State :=
  if s.mayDrive && s.drv.records.any fun r => r.state == .waiting then
    let starting := s.drv.records.filter fun r => r.state == .waiting
    let s₁ : State := { s with drv := { s.drv with records := s.drv.records.map (GroupRecord.start s.station) } }
    let s₂ := eachOfEight
      (fun c s => if starting.any fun r => r.members.get c then s.becomeDriveMember c else s) s₁
    let s₃ : State :=
      if s.anyStarted then s₂ else { s₂ with fqu := { s₂.fqu with want := s₂.fqu.limit } }
    s₃.refreshPeriod
  else s

/-- R162, R163, R166: a half-cycle opens: each started group is decided ON or OFF, half-cycle energies return to 0 and
stopped marks are cleared. -/
def State.openHalfCycle (s : State) : State :=
  { s with drv :=
    { records := s.drv.records.map fun (r : GroupRecord) =>
        { r with on := r.state == .started && patternOn s.mtu.index r.offset r.n, period := none }
      coils := s.drv.coils.map fun d =>
        { d.gatesLow with periods := 0, acc := 0, energy := 0, stopped := false } } }

end Sys2Proof.Machine
end

