-- ==== Sys2Proof/Machine/Mains.lean ====
section
/-!
DEFINITION. Crossings (R13 to R21): the update of the mains timing unit and everything a crossing hands on;
ZC_EDGE and SYNTHESIS_DEADLINE.
-/

namespace Sys2Proof.Machine

/-- R14: a spacing is in range. -/
def inRange (spacing : Nat) : Bool := decide (7000 ≤ spacing ∧ spacing ≤ 11500)

/-- R16: distance of the synthesis deadline from the crossing before it. -/
def Mtu.deadline (m : Mtu) : Nat := m.last + 5 * m.h / 4

/-- R14, R15, R17: the crossing qualifies: real, measured, in range and of alternating polarity. -/
def Mtu.qualifies (m : Mtu) (now : Nat) (p : Polarity) : Bool :=
  m.realSeen && inRange (now - m.last) && p != m.polarity

/-- R14 to R19, R21, R22: the unit after a real crossing at `now` with polarity `p`. -/
def Mtu.real (m : Mtu) (now : Nat) (p : Polarity) : Mtu :=
  let good := if m.qualifies now p then min 8 (m.goodRun + 1) else 0
  let enters := m.mains = .lost ∧ good = 8
  let index := if enters then 0 else (m.index + 1) % 16
  { last := now, polarity := p, crossed := true, realSeen := true
    h := if m.qualifies now p then now - m.last else m.h
    synthRun := 0, goodRun := good
    mains := if enters then .ok else m.mains
    index := index
    windowStart := if index = 0 then now else m.windowStart
    drive := .ahead, tracking := .ahead, leading := false }

/-- R16, R17, R19, R21, R22: the unit after a crossing synthesized at `now`. -/
def Mtu.synthesized (m : Mtu) (now : Nat) : Mtu :=
  let run := min 3 (m.synthRun + 1)
  let index := (m.index + 1) % 16
  { last := now, polarity := m.polarity.flip, crossed := true, realSeen := m.realSeen, h := m.h
    synthRun := run, goodRun := 0
    mains := if m.mains = .ok ∧ run = 3 then .lost else m.mains
    index := index
    windowStart := if index = 0 then now else m.windowStart
    drive := .ahead, tracking := .ahead, leading := false }

/-- R24, R28, R46: at a crossing of the probe polarity a used slot begins a probe of the pair at the pointer. -/
def Prb.crossing (probes : Bool) (p : Prb) : Prb :=
  if probes then
    let used := !p.quiet || p.quietCount == 0
    { p with
      inFlight := if used then some { pair := p.pointer, fired := false } else none
      pointer := if used then p.pointer + 1 else p.pointer
      quietCount := if p.quiet then (p.quietCount + 1) % 4 else p.quietCount }
  else { p with inFlight := none }

/-- R22: whatever of the half-cycle in progress is still open ends at the crossing. -/
def State.endHalfCycle (s : State) : State :=
  let s₁ := if s.mtu.drive = .running then s.closeDrive else s
  if s₁.mtu.tracking = .running then s₁.closeTracking else s₁

/-- R19, R20, R160: what the mains state `was` and is now does: a change is a STATUS change, and LOST stops drive. -/
def State.mainsChange (was : Mains) (s : State) : State :=
  if s.mtu.mains = was then s
  else if s.mtu.mains = .lost then s.driveStop.statusChange
  else s.statusChange

/-- R21: the window end and start that the crossing is when the index is 0, with the window begun at `start`. -/
def State.windowTurn (start : Nat) (s : State) : State :=
  if s.mtu.index = 0 then (s.windowEnd (s.clock - start)).startWaiting else s

/-- R28, R30: the probe begun at the crossing, discarded when the mains state `was` another. -/
def State.probeCrossing (was : Mains) (s : State) : State :=
  let p := s.prb.crossing (s.mtu.polarity == s.straps.probePolarity)
  { s with prb := if s.mtu.mains = was then p else { p with inFlight := none } }

/-- R175: a half-cycle that ended before its leading valley gap opened starts its conversion at the crossing. -/
def State.crossingConversion (before : Mtu) (s : State) : State :=
  if before.crossed ∧ ¬ before.leading then { s with prt := { s.prt with conversion := some s.clock } } else s

/-- R152: the applied period takes the value of S. -/
def State.applyPeriod (s : State) : State := { s with fqu := { s.fqu with sApp := s.fqu.s } }

/-- A crossing, real or synthesized: the half-cycle in progress ends, the unit takes `mtu'`, and the crossing is handed
on. The applied period takes S as it stood before what the crossing itself changes (notes/assumptions/7.md). -/
def State.crossing (mtu' : Mtu) (s : State) : State :=
  let before := s.mtu
  let s₁ := s.applyPeriod.endHalfCycle
  let s₂ := ({ s₁ with mtu := mtu' } : State).mainsChange before.mains
  let s₃ := s₂.removeEnding.windowTurn before.windowStart
  let s₄ := (s₃.openHalfCycle.probeCrossing before.mains).crossingConversion before
  s₄.refreshPeriod.joinCheck

/-- ZC_EDGE (R13): an edge within 2,000 µs of the last crossing is ignored; any other is a real crossing. The reset
reference imposes no lockout (R27). -/
def execZcEdge (dt : Nat) (p : Polarity) (samples : Oct (List Sample)) (s : State) : Host.Outcome State Fault Refusal :=
  .next (s.running dt fun s =>
    let s₁ := s.takeSamples samples
    if s₁.mtu.crossed ∧ s₁.clock < s₁.mtu.last + 2000 then s₁
    else s₁.crossing (s₁.mtu.real s₁.clock p))

/-- SYNTHESIS_DEADLINE (R16): the deadline arrives before an edge has been accepted. -/
def execSynthesisDeadline (dt : Nat) (s : State) : Host.Outcome State Fault Refusal :=
  .next (s.running dt fun s =>
    if s.mtu.deadline ≤ s.clock then s.crossing (s.mtu.synthesized s.clock) else s)

end Sys2Proof.Machine
end

