-- ==== Sys2Proof/Machine/Probing.lean ====
section
/-!
DEFINITION. Probe slots, the processing of probe results (R33 to R43), quiet mode (R45 to R47) and temperature
conversions (R175, R176).
-/

namespace Sys2Proof.Machine

/-- R34: a coil after its discard probe. -/
def CoilProbe.afterDiscard (r : ProbeReading) (p : CoilProbe) : CoilProbe :=
  { p with discardDone := true, tb := ringPeriod r.waves }

/-- R43: a coil found open. -/
def CoilProbe.open_ (p : CoilProbe) : CoilProbe :=
  { p with
    opened := true, q := 0, pendingRaw := [], tres := none, object := false, unfit := false
    baseRun := 0, entryRun := 0, exitRun := 0, openRun := 0 }

/-- R36: baseline and baseline run after ring count `n` with raw coverage `raw`. -/
def CoilProbe.trackBaseline (t : Straps) (n raw : Nat) (p : CoilProbe) : CoilProbe :=
  if p.e < n then { p with e := if p.e < t.eMax then p.e + 1 else p.e, baseRun := 0 }
  else if p.e = n ∨ 1 ≤ raw then { p with baseRun := 0 }
  else if p.baseRun + 1 < 64 then { p with baseRun := p.baseRun + 1 }
  else { p with e := if t.eMin < p.e then p.e - 1 else p.e, baseRun := 0 }

/-- R41, R42: the object flag and runs. As the flag clears, the condition follows from the coverage that the debounce of
the same probe leaves (R37, R40): COVERED in the corner in which that is not 0, against R42's last word of it (DEDUCED,
notes/assumptions/28.md). -/
def CoilProbe.trackObject (raw : Nat) (period : Option Nat) (p : CoilProbe) : CoilProbe :=
  if p.object then
    if raw = 0 then
      if p.exitRun + 1 < 3 then { p with exitRun := p.exitRun + 1 }
      else { p with object := false, exitRun := 0, entryRun := 0 }
    else { p with exitRun := 0 }
  else if objectTest raw period p.tb then
    if p.entryRun + 1 < 3 then { p with entryRun := p.entryRun + 1 }
    else { p with object := true, entryRun := 0, exitRun := 0, unfit := false }
  else { p with entryRun := 0 }

/-- R38: Tres after the debounce. -/
def CoilProbe.trackPeriod (period : Option Nat) (p : CoilProbe) : CoilProbe :=
  { p with tres := if p.q = 0 then none else period.orElse fun _ => p.tres }

/-- R34: an unset Tb is set by a probe of raw coverage 0 with a measured period. -/
def CoilProbe.trackTb (raw : Nat) (period : Option Nat) (p : CoilProbe) : CoilProbe :=
  if p.tb.isNone ∧ raw = 0 then { p with tb := period } else p

/-- R37 on a coil. -/
def CoilProbe.trackCoverage (raw : Nat) (p : CoilProbe) : CoilProbe :=
  let d := debounce p.q p.pendingRaw raw
  { p with q := d.1, pendingRaw := d.2 }

/-- R44, R147: the UNFIT mark of a coil whose condition has changed to CLEAR is cleared. -/
def CoilProbe.clearUnfit (before : Condition) (p : CoilProbe) : CoilProbe :=
  if p.condition = .clear ∧ before ≠ .clear then { p with unfit := false } else p

/-- R39: a completed non-discard probe of a coil, and the raw coverage it gives (none when the coil is found open). -/
def CoilProbe.result (t : Straps) (r : ProbeReading) (p : CoilProbe) : CoilProbe × Option Nat :=
  if r.lowCurrent ∧ 3 ≤ p.openRun + 1 then (p.open_, none)
  else
    let n := ringCount r.waves
    let period := ringPeriod r.waves
    let raw := rawCoverage p.e n
    let p₁ := { p with openRun := if r.lowCurrent then p.openRun + 1 else 0 }
    let p₂ := ((p₁.trackBaseline t n raw).trackObject raw period).trackCoverage raw
    let p₃ := (p₂.trackPeriod period).trackTb raw period
    (({ p₃ with firstResult := true } : CoilProbe).clearUnfit p.condition, some raw)

/-- R29, R34, R39: a coil of the pair at the close of the slot, and the raw coverage its probe gives, if any. A coil that
is not struck gives none. -/
def CoilProbe.close (t : Straps) (r : ProbeReading) (p : CoilProbe) : CoilProbe × Option Nat :=
  if p.struck then (if p.discardDone then p.result t r else (p.afterDiscard r, none)) else (p, none)

/-- R48: what an outcome reports of a coil has changed. -/
def reportsChange (before after : CoilProbe) : Bool :=
  after.q != before.q || after.condition != before.condition

/-- R48, R87, R126: the outcome of one coil is handed on; `before` is the state that the readings found. -/
def State.outcome (before : State) (c : Fin 8) (s : State) : State :=
  if reportsChange (before.prb.coils.get c) (s.prb.coils.get c) then
    (s.statusChange.stripUncovered c).followDrivability (before.drivableFor c) c
  else s

/-- PROBE_SLOT_OPEN (R29): 100 µs after the crossing the burst is fired into the coils of the pair that are struck
(State.probeOutput). -/
def execProbeSlotOpen (dt : Nat) (s : State) : Host.Outcome State Fault Refusal :=
  .next (s.running dt fun s =>
    match s.prb.inFlight with
    | some f =>
      if ¬ f.fired ∧ s.mtu.last + 100 ≤ s.clock then
        { s with prb := { s.prb with inFlight := some { f with fired := true } } }
      else s
    | none => s)

/-- R39, R45, R47: both coils of a pair take their readings; a raw coverage of 1 or more restarts the quiet timer and
ends quiet mode. -/
def State.takeReadings (a b : Fin 8) (lower higher : ProbeReading) (s : State) : State :=
  let ra := (s.prb.coils.get a).close s.straps lower
  let rb := (s.prb.coils.get b).close s.straps higher
  let covered := ra.2.any (1 ≤ ·) || rb.2.any (1 ≤ ·)
  let s₁ : State := { s with prb := { s.prb with
    inFlight := none
    quietTimer := if covered then 0 else s.prb.quietTimer
    coils := (s.prb.coils.set a ra.1).set b rb.1 } }
  if covered then s₁.leaveQuiet else s₁

/-- PROBE_SLOT_CLOSE (R29): 1,400 µs after the crossing the probe completes, and its outcome is handed on (R48). -/
def execProbeSlotClose (dt : Nat) (lower higher : ProbeReading) (s : State) : Host.Outcome State Fault Refusal :=
  .next (s.running dt fun s =>
    match s.prb.inFlight with
    | some f =>
      if f.fired ∧ s.mtu.last + 1400 ≤ s.clock then
        let (a, b) := pairCoils f.pair
        let s₁ := s.takeReadings a b lower higher
        let changed := reportsChange (s.prb.coils.get a) (s₁.prb.coils.get a)
          || reportsChange (s.prb.coils.get b) (s₁.prb.coils.get b)
        let s₂ := State.outcome s b (State.outcome s a s₁)
        (if changed then s₂.trigger else s₂).joinCheck
      else s
    | none => s)

/-- QUIET_TIMER_END (R45, R46): the probe unit enters quiet mode. -/
def execQuietTimerEnd (dt : Nat) (s : State) : Host.Outcome State Fault Refusal :=
  .next (s.running dt fun s =>
    if s.prb.quietTimer = 60000 ∧ ¬ s.prb.quiet then
      { s with prb := { s.prb with quiet := true, quietCount := 0 } }
    else s)

/-- TEMPERATURE_CONVERSION_COMPLETE (R175, R176): 400 µs after it started a conversion gives every coil a reading. The
coils are taken in increasing local index (DESIGN CHOICE, notes/assumptions/27.md). -/
def execTemperatureConversionComplete (dt : Nat) (readings : Oct Int) (s : State) :
    Host.Outcome State Fault Refusal :=
  .next (s.running dt fun s =>
    match s.prt.conversion with
    | some start =>
      if start + 400 ≤ s.clock then
        let s₁ : State := { s with prt := { s.prt with
          conversion := none, readings := readings.map some } }
        eachOfEight (fun c s => s.setBand c (bandAfter (s.prt.bands.get c) (readings.get c))) s₁
      else s
    | none => s)

end Sys2Proof.Machine
end

