-- ==== Sys2Proof/Machine/Protect.lean ====
section
/-!
DEFINITION. The trip input, the hold and the gate supply (R170 to R173), and the end of an allocation pass (R120).
-/

namespace Sys2Proof.Machine

/-- R170, R171: the state leaves ARMED for `st`: drive ends, the claim and every target go to 0, a probe in flight is
discarded, and the change is a STATUS change. -/
def State.leaveArmed (st : Protection) (s : State) : State :=
  let s₁ : State := { s with
    prt := { s.prt with state := st, hold := if st = .tripped then some 0 else none, sinceTrip := some 0 }
    prb := { s.prb with inFlight := none } }
  ((s₁.claimZero).driveEnd).statusChange

/-- TRIP (R170): the trip input becomes active. In ARMED that is a trip: LOCKED when the last trip was less than 30 s
ago, TRIPPED otherwise. -/
def execTrip (dt : Nat) (s : State) : Host.Outcome State Fault Refusal :=
  .next (s.running dt fun s =>
    if s.prt.tripInput then s
    else
      let s₁ : State := { s with prt := { s.prt with tripInput := true } }
      if s.prt.state = .armed then
        s₁.leaveArmed (if s.prt.sinceTrip.any (· < 30000) then .locked else .tripped)
      else s₁)

/-- TRIP_INPUT_INACTIVE (R170): the hardware hold of the gates ends. -/
def execTripInputInactive (dt : Nat) (s : State) : Host.Outcome State Fault Refusal :=
  .next (s.running dt fun s => { s with prt := { s.prt with tripInput := false } })

/-- HOLD_TIMER_END (R172): back to ARMED when the trip input is inactive; the hold restarts otherwise. -/
def execHoldTimerEnd (dt : Nat) (s : State) : Host.Outcome State Fault Refusal :=
  .next (s.running dt fun s =>
    if s.prt.state = .tripped ∧ s.prt.hold = some 2000 then
      if s.prt.tripInput then { s with prt := { s.prt with hold := some 0 } }
      else ({ s with prt := { s.prt with state := .armed, hold := none } } : State).statusChange
    else s)

/-- GATE_SUPPLY_FALL (R173, R160, R30). -/
def execGateSupplyFall (dt : Nat) (s : State) : Host.Outcome State Fault Refusal :=
  .next (s.running dt fun s =>
    if s.prt.gateGood then
      let s₁ : State := { s with
        prt := { s.prt with gateGood := false }
        prb := { s.prb with inFlight := none } }
      (s₁.driveStop).statusChange
    else s)

/-- GATE_SUPPLY_RISE (R173). -/
def execGateSupplyRise (dt : Nat) (s : State) : Host.Outcome State Fault Refusal :=
  .next (s.running dt fun s =>
    if s.prt.gateGood then s
    else ({ s with prt := { s.prt with gateGood := true } } : State).statusChange)

/-- ALLOCATION_PASS_END (R120, R124, R135, R156). -/
def execAllocationPassEnd (dt : Nat) (samples : Oct (List Sample)) (s : State) : Host.Outcome State Fault Refusal :=
  .next (s.running dt fun s => (s.takeSamples samples).endPass)

end Sys2Proof.Machine
end

