-- ==== Sys2Proof/Machine/Reset.lean ====
section
/-!
DEFINITION. Entering and leaving reset (R10, R11, and the after-reset rule of each chapter).
-/

namespace Sys2Proof.Machine

/-- RESET_ENTRY (R11): every gate goes low, the line is released, the frame on the line and any probe in flight end.
The logic supply counts as having been below its threshold when a brown-out is the source (R10). -/
def execResetEntry (source : ResetSource) (s : State) : Host.Outcome State Fault Refusal :=
  let low : Bool := source == .brownOut
  .next { s with
    inReset := true
    supplyWasLow := if s.inReset then s.supplyWasLow || low else low
    prb := { s.prb with inFlight := none }
    tbi := { s.tbi with tx := none, rx := .waitIdle }
    drv := { s.drv with coils := s.drv.coils.map CoilDrive.gatesLow } }

/-- LEAVE_RESET (R7, R10, R11): the cause is recorded, the straps are sampled and every block starts from its
after-reset state (R27, R49, R71, R85, R113, R129, R137, R155, R169, R177). Out of reset there is nothing to leave. -/
def execLeaveReset (pins : StrapPins) (gateGood tripActive : Bool) (s : State) : Host.Outcome State Fault Refusal :=
  if s.inReset then
    let straps := strapsOf pins
    .next
      { pending := s.pending, clock := 0, inReset := false, supplyWasLow := s.supplyWasLow
        cause := if s.supplyWasLow then .power else .pin
        straps := straps, free := s.free
        mtu := .reset, prb := .reset straps.eNom, tbi := .reset, svw := .reset, ptk := .reset, lau := .reset
        bgu := .reset, fqu := .reset, drv := .reset, prt := .reset gateGood tripActive }
  else .next s

/-- BROWN_OUT_IN_RESET (R10): the cause recorded on leaving becomes POWER. -/
def execBrownOutInReset (s : State) : Host.Outcome State Fault Refusal :=
  .next (if s.inReset then { s with supplyWasLow := true } else s)

end Sys2Proof.Machine
end

