-- ==== Sys2Proof/Machine/Dispatch.lean ====
section
/-! DEFINITION. The meaning of every command, one arm per row of spec/opcode_table.json. -/

namespace Sys2Proof.Machine

def exec (i : Instr) (s : State) : Host.Outcome State Fault Refusal :=
  match i with
  | .resetEntry source => Sys2Proof.Machine.execResetEntry source s
  | .leaveReset pins gateGood tripActive => Sys2Proof.Machine.execLeaveReset pins gateGood tripActive s
  | .zcEdge dt polarity samples => Sys2Proof.Machine.execZcEdge dt polarity samples s
  | .synthesisDeadline dt => Sys2Proof.Machine.execSynthesisDeadline dt s
  | .probeSlotOpen dt => Sys2Proof.Machine.execProbeSlotOpen dt s
  | .probeSlotClose dt lower higher => Sys2Proof.Machine.execProbeSlotClose dt lower higher s
  | .quietTimerEnd dt => Sys2Proof.Machine.execQuietTimerEnd dt s
  | .valleyGapOpen dt => Sys2Proof.Machine.execValleyGapOpen dt s
  | .driveSpanOpen dt => Sys2Proof.Machine.execDriveSpanOpen dt s
  | .driveSpanClose dt samples => Sys2Proof.Machine.execDriveSpanClose dt samples s
  | .trackingSpanOpen dt => Sys2Proof.Machine.execTrackingSpanOpen dt s
  | .trackingSpanClose dt => Sys2Proof.Machine.execTrackingSpanClose dt s
  | .switchingPeriodStart dt pan samples margins => Sys2Proof.Machine.execSwitchingPeriodStart dt pan samples margins s
  | .temperatureConversionComplete dt readings => Sys2Proof.Machine.execTemperatureConversionComplete dt readings s
  | .frameCut dt => Sys2Proof.Machine.execFrameCut dt s
  | .allOff dt env => Sys2Proof.Machine.execAllOff dt env s
  | .level dt env payload => Sys2Proof.Machine.execLevel dt env payload s
  | .pan dt env payload => Sys2Proof.Machine.execPan dt env payload s
  | .status dt env payload => Sys2Proof.Machine.execStatus dt env payload s
  | .beacon dt env payload => Sys2Proof.Machine.execBeacon dt env payload s
  | .transmitStart start => Sys2Proof.Machine.execTransmitStart start s
  | .transmitSuccess dt => Sys2Proof.Machine.execTransmitSuccess dt s
  | .transmitMismatch dt => Sys2Proof.Machine.execTransmitMismatch dt s
  | .arbitrationLost dt => Sys2Proof.Machine.execArbitrationLost dt s
  | .reportTick dt => Sys2Proof.Machine.execReportTick dt s
  | .spacingTimerEnd dt => Sys2Proof.Machine.execSpacingTimerEnd dt s
  | .listenTimerEnd dt => Sys2Proof.Machine.execListenTimerEnd dt s
  | .silenceTimerEnd dt => Sys2Proof.Machine.execSilenceTimerEnd dt s
  | .transmitStallTimerEnd dt => Sys2Proof.Machine.execTransmitStallTimerEnd dt s
  | .conflictRepeatTimerEnd dt => Sys2Proof.Machine.execConflictRepeatTimerEnd dt s
  | .stationAgeExpiry dt station => Sys2Proof.Machine.execStationAgeExpiry dt station s
  | .trackingPass dt samples => Sys2Proof.Machine.execTrackingPass dt samples s
  | .settleTimerEnd dt pan => Sys2Proof.Machine.execSettleTimerEnd dt pan s
  | .stableTimerEnd dt pan => Sys2Proof.Machine.execStableTimerEnd dt pan s
  | .liftedTimerEnd dt pan => Sys2Proof.Machine.execLiftedTimerEnd dt pan s
  | .lastHeardAgeExpiry dt pan => Sys2Proof.Machine.execLastHeardAgeExpiry dt pan s
  | .panPeriodTimerEnd dt pan => Sys2Proof.Machine.execPanPeriodTimerEnd dt pan s
  | .panSpacingTimerEnd dt pan => Sys2Proof.Machine.execPanSpacingTimerEnd dt pan s
  | .panelAgeExpiry dt => Sys2Proof.Machine.execPanelAgeExpiry dt s
  | .trip dt => Sys2Proof.Machine.execTrip dt s
  | .holdTimerEnd dt => Sys2Proof.Machine.execHoldTimerEnd dt s
  | .gateSupplyFall dt => Sys2Proof.Machine.execGateSupplyFall dt s
  | .gateSupplyRise dt => Sys2Proof.Machine.execGateSupplyRise dt s
  | .allocationPassEnd dt samples => Sys2Proof.Machine.execAllocationPassEnd dt samples s
  | .lineIdle dt => Sys2Proof.Machine.execLineIdle dt s
  | .tripInputInactive dt => Sys2Proof.Machine.execTripInputInactive dt s
  | .brownOutInReset => Sys2Proof.Machine.execBrownOutInReset s

end Sys2Proof.Machine
end

