-- ==== Sys2Proof/WellFormed.lean ====
section
/-!
DEFINITION. Which commands the part can be given: pan IDs that can key a record (R88), ring half-waves in the order of
their arrival (R31), and no more samples of a coil than one switching period has (R166).
-/

namespace Sys2Proof

/-- A pan ID that a record can be keyed by (R88, Table 6-2): 1..127. -/
def legalPanId (p : Nat) : Bool := decide (1 ≤ p ∧ p ≤ 127)

/-- R31, R32: half-waves are listed in order of arrival, so their starts rise. -/
def wavesInOrder : List HalfWave → Bool
  | [] => true
  | [_] => true
  | w :: v :: rest => decide (w.start < v.start) && wavesInOrder (v :: rest)

/-- R166: a coil is sampled sixteen times in a switching period, and the command that ends the period carries them. -/
def samplesOfOnePeriod (samples : Oct (List Sample)) : Bool := eight.all fun c => decide ((samples.get c).length ≤ 16)

/-- The operands of a command are ones that the part can be given. -/
def Instr.wf : Instr → Bool
  | .resetEntry _ => true
  | .leaveReset _ _ _ => true
  | .zcEdge _ _ samples => samplesOfOnePeriod samples
  | .synthesisDeadline _ => true
  | .probeSlotOpen _ => true
  | .probeSlotClose _ lower higher => wavesInOrder lower.waves && wavesInOrder higher.waves
  | .quietTimerEnd _ => true
  | .valleyGapOpen _ => true
  | .driveSpanOpen _ => true
  | .driveSpanClose _ samples => samplesOfOnePeriod samples
  | .trackingSpanOpen _ => true
  | .trackingSpanClose _ => true
  | .switchingPeriodStart _ p samples _ => legalPanId p && samplesOfOnePeriod samples
  | .temperatureConversionComplete _ _ => true
  | .frameCut _ => true
  | .allOff _ _ => true
  | .level _ _ _ => true
  | .pan _ _ _ => true
  | .status _ _ _ => true
  | .beacon _ _ _ => true
  | .transmitStart _ => true
  | .transmitSuccess _ => true
  | .transmitMismatch _ => true
  | .arbitrationLost _ => true
  | .reportTick _ => true
  | .spacingTimerEnd _ => true
  | .listenTimerEnd _ => true
  | .silenceTimerEnd _ => true
  | .transmitStallTimerEnd _ => true
  | .conflictRepeatTimerEnd _ => true
  | .stationAgeExpiry _ _ => true
  | .trackingPass _ samples => samplesOfOnePeriod samples
  | .settleTimerEnd _ p => legalPanId p
  | .stableTimerEnd _ p => legalPanId p
  | .liftedTimerEnd _ p => legalPanId p
  | .lastHeardAgeExpiry _ p => legalPanId p
  | .panPeriodTimerEnd _ p => legalPanId p
  | .panSpacingTimerEnd _ p => legalPanId p
  | .panelAgeExpiry _ => true
  | .trip _ => true
  | .holdTimerEnd _ => true
  | .gateSupplyFall _ => true
  | .gateSupplyRise _ => true
  | .allocationPassEnd _ samples => samplesOfOnePeriod samples
  | .lineIdle _ => true
  | .tripInputInactive _ => true
  | .brownOutInReset => true

end Sys2Proof
end

