-- ==== Sys2Proof/Safety.lean ====
section
/-!
DEFINITION. The terms in which claims about the part are stated: runs of commands, stopped drive, the invariants that
the manual gives each block, and the contents that a frame can carry.
-/

namespace Sys2Proof

/-! ### Commands and runs -/

/-- The time a command carries; the three commands of reset carry none. -/
def Instr.elapsed : Instr → Option Nat
  | .resetEntry _ => none
  | .leaveReset _ _ _ => none
  | .zcEdge dt _ _ => some dt
  | .synthesisDeadline dt => some dt
  | .probeSlotOpen dt => some dt
  | .probeSlotClose dt _ _ => some dt
  | .quietTimerEnd dt => some dt
  | .valleyGapOpen dt => some dt
  | .driveSpanOpen dt => some dt
  | .driveSpanClose dt _ => some dt
  | .trackingSpanOpen dt => some dt
  | .trackingSpanClose dt => some dt
  | .switchingPeriodStart dt _ _ _ => some dt
  | .temperatureConversionComplete dt _ => some dt
  | .frameCut dt => some dt
  | .allOff dt _ => some dt
  | .level dt _ _ => some dt
  | .pan dt _ _ => some dt
  | .status dt _ _ => some dt
  | .beacon dt _ _ => some dt
  | .transmitStart start => some start.dt
  | .transmitSuccess dt => some dt
  | .transmitMismatch dt => some dt
  | .arbitrationLost dt => some dt
  | .reportTick dt => some dt
  | .spacingTimerEnd dt => some dt
  | .listenTimerEnd dt => some dt
  | .silenceTimerEnd dt => some dt
  | .transmitStallTimerEnd dt => some dt
  | .conflictRepeatTimerEnd dt => some dt
  | .stationAgeExpiry dt _ => some dt
  | .trackingPass dt _ => some dt
  | .settleTimerEnd dt _ => some dt
  | .stableTimerEnd dt _ => some dt
  | .liftedTimerEnd dt _ => some dt
  | .lastHeardAgeExpiry dt _ => some dt
  | .panPeriodTimerEnd dt _ => some dt
  | .panSpacingTimerEnd dt _ => some dt
  | .panelAgeExpiry dt => some dt
  | .trip dt => some dt
  | .holdTimerEnd dt => some dt
  | .gateSupplyFall dt => some dt
  | .gateSupplyRise dt => some dt
  | .allocationPassEnd dt _ => some dt
  | .lineIdle dt => some dt
  | .tripInputInactive dt => some dt
  | .brownOutInReset => none

/-- The samples that an edge of the zero-crossing input carries (R166); a synthesis deadline carries none. -/
def Instr.edgeSamples : Instr → Oct (List Sample)
  | .zcEdge _ _ samples => samples
  | _ => .all []

/-- The command is LEAVE_RESET. -/
def Instr.leavesReset : Instr → Bool
  | .leaveReset _ _ _ => true
  | _ => false

end Sys2Proof

namespace Sys2Proof.Machine

/-- The commands of a list in order, stopping where one has no next state. -/
def runAll : List Instr → State → Host.Outcome State Fault Refusal
  | [], s => .next s
  | i :: is, s =>
    match exec i s with
    | .next t => runAll is t
    | .fault f => .fault f
    | .refused r => .refused r

/-! ### When an event happens -/

/-- Command `i` is, at instant `now`, a crossing for the running station: an edge outside the lockout (R13) or a synthesis
deadline that has arrived (R16). -/
def State.Crosses (s : State) (i : Instr) (now : Nat) : Prop :=
  s.inReset = false ∧
    ((∃ dt p samples, i = .zcEdge dt p samples ∧ now = s.clock + dt ∧ (s.mtu.crossed = false ∨ s.mtu.last + 2000 ≤ now))
    ∨ ∃ dt, i = .synthesisDeadline dt ∧ now = s.clock + dt ∧ s.mtu.last + 5 * s.mtu.h / 4 ≤ now)

/-- R54, R55: the receiver of the running station takes the frame, and its check is right. -/
def State.Receives (s : State) (cls : Nat) (env : Envelope) (payload : List Byte) : Prop :=
  s.inReset = false ∧ s.tbi.rx ≠ .waitIdle ∧ checkMatches cls env payload = true

/-- R57: a tile controller's frame is accepted from another station. -/
def State.AcceptsFrom (s : State) (src : Fin 8) (cls : Nat) (env : Envelope) (payload : List Byte) : Prop :=
  s.Receives cls env payload ∧ env.source.val = src.val ∧ src ≠ s.station

/-- R57: a frame of the panel is accepted. -/
def State.AcceptsPanel (s : State) (cls : Nat) (env : Envelope) (payload : List Byte) : Prop :=
  s.Receives cls env payload ∧ env.source = 15

/-- R67: the next accepted frame brings the isolated station to LISTEN. -/
def State.EndsIsolation (s : State) : Prop := s.tbi.link = .isolated ∧ s.tbi.ownSent = true

/-! ### What is safe at the gates -/

/-- Every gate output of the station is low, and stays low until a period starts. -/
def State.GatesLow (s : State) : Prop := ∀ c k, s.gateOutput c k = .bothLow ∧ (s.drv.coils.get c).gates = none

/-- R160: drive has stopped: every gate is low, no coil is a drive member or shown as driving, and no group is started
or ending. -/
structure State.DriveStopped (s : State) : Prop where
  gates : s.GatesLow
  members : ∀ c, s.fqu.members.get c = none
  driving : ∀ c, (s.drv.coils.get c).driving = false
  records : ∀ r ∈ s.drv.records, r.state = .waiting ∧ r.n = 0 ∧ r.sum = 0 ∧ r.on = false
  limit : s.fqu.limit = none ∧ s.fqu.want = none

/-- R160: what a stop of drive does to the coils besides their gates and flags: the members of the groups that were started
or ending `before` it lose the energy of the half-cycle, and every other coil keeps its own. -/
def State.EnergiesDiscarded (before s : State) : Prop :=
  ∀ c, let d := before.drv.coils.get c
    let d' := s.drv.coils.get c
    d'.stopped = d.stopped ∧ d'.periods = d.periods ∧
      if ∃ r ∈ before.drv.records, r.state ≠ .waiting ∧ r.members.get c = true then d'.acc = 0 ∧ d'.energy = 0
      else d'.acc = d.acc ∧ d'.energy = d.energy

/-- R166: the whole millijoules that own coil `c` has taken in the half-cycle when its switching ends with `samples` the
last of it: those samples count that are among the sixteen of the period in progress, each over a sixteenth of it. -/
def State.energyWith (s : State) (samples : Oct (List Sample)) (c : Fin 8) : Int :=
  let d := s.drv.coils.get c
  let taken := if d.inPeriod = true then (samples.get c).take (16 - d.sampled) else []
  (d.acc + (taken.map fun x => x.current * x.voltage * (d.len : Int)).sum) / 1024000000

/-- R22, R166: what the crossing that command `i` is adds to the window energy sum of a group: the energies of its members,
where the crossing comes inside the drive span and so ends it. -/
def State.cutEnergy (s : State) (i : Instr) (r : GroupRecord) : Int :=
  if s.mtu.drive = .running then ((eight.filter fun c => r.members.get c).map (s.energyWith i.edgeSamples)).sum else 0

/-- R165: a gate pattern stands only for a coil that may switch, in a group that is ON, inside the drive span and
outside the valley gap. The last clause ties the leading valley gap to the clock (R23). -/
structure State.GatesKept (s : State) : Prop where
  may : ∀ c, (s.drv.coils.get c).gates ≠ none →
    s.mayDrive = true ∧ s.drivable c = true ∧ (s.drv.coils.get c).stopped = false
      ∧ (s.fqu.members.get c).isSome = true
  inside : ∀ c, (s.drv.coils.get c).gates ≠ none →
    s.mtu.drive = .running ∧ s.mtu.leading = false ∧ (s.drv.coils.get c).inPeriod = true
  group : ∀ c, (s.drv.coils.get c).gates ≠ none →
    ∃ r ∈ s.drv.records, r.state ≠ .waiting ∧ r.on = true ∧ r.members.get c = true
  valley : s.mtu.leading = true → s.mtu.last + s.mtu.h ≤ s.clock + 500

/-! ### Terms of the tracking pass -/

/-- R97: `m` is the ID of a settling record, not withdrawn and below `p`, and labels a fresh entry adjacent to a fresh entry
labelled `p`. -/
def State.MergesInto (s : State) (p m : Nat) : Prop :=
  m < p ∧ (∃ r ∈ s.ptk.registry, r.id = m ∧ r.state = .settling ∧ r.withdrawn = false) ∧
    ∃ i j, i < 64 ∧ j < 64 ∧ adjacent i j = true ∧ s.freshEntry i = true ∧ (s.entry i).label = p ∧
      s.freshEntry j = true ∧ (s.entry j).label = m

/-- R98: coil `j` is reached from the lowest fresh entry labelled `p` through adjacent fresh entries labelled `p`. -/
def State.JoinedToLowest (s : State) (p j : Nat) : Prop :=
  ∃ i, i < 64 ∧ s.freshEntry i = true ∧ (s.entry i).label = p ∧
    (∀ k, k < 64 → s.freshEntry k = true → (s.entry k).label = p → i ≤ k) ∧
    Relation.ReflTransGen
      (fun a b => adjacent a b = true ∧ b < 64 ∧ s.freshEntry b = true ∧ (s.entry b).label = p) i j

/-- R99: how many entries adjacent to own coil `c` carry `p`. -/
def State.neighbours (s : State) (c : Fin 8) (p : Nat) : Nat :=
  ((List.range 64).filter fun i => adjacent (s.ownIndex c) i && (s.entry i).label == p).length

/-- R98, R99: ID `p` is a candidate for own coil `c` that is not passed over and passes the growth test: its record is
neither LIFTED nor withdrawn, or can be stored; it is settling or stays within Ws plus 4; and where `c` was stripped of it
in this pass, a neighbour is joined to its lowest coil. -/
def State.MayTake (s : State) (stripped : List (Fin 8 × Nat)) (c : Fin 8) (p : Nat) : Prop :=
  p ≠ 0 ∧ 1 ≤ s.neighbours c p ∧
    ((c, p) ∈ stripped → ∃ j, s.JoinedToLowest p j ∧ adjacent (s.ownIndex c) j = true) ∧
    match s.record? p with
    | some r => r.state ≠ .lifted ∧ r.withdrawn = false ∧
        (r.state = .settling ∨ s.panWeight p + (s.prb.coils.get c).q ≤ r.ws + 4)
    | none => s.ptk.registry.length < 16 ∨
        ∃ x ∈ s.ptk.registry, x.role = .heard ∧ ∀ k, s.ptk.labels.get k ≠ x.id

/-! ### Invariants of the blocks -/

/-- R130, R124: the claim stays within budget and demand, is 0 unless the station is joined and armed, and bounds the
scaled targets; so do the results of a pass in progress. -/
structure State.ClaimKept (s : State) : Prop where
  budget : s.bgu.claim ≤ s.straps.watts
  demand : s.bgu.claim ≤ s.lau.demand
  zero : s.mayClaim = false → s.bgu.claim = 0
  scaled : (s.lau.groups.map (·.scaled)).sum ≤ s.bgu.claim
  pass : ∀ p, s.lau.pass = some p →
    p.claim ≤ s.straps.watts ∧ p.claim ≤ p.demand ∧ (p.groups.map (·.scaled)).sum ≤ p.claim ∧
      p.demand = (p.groups.map (·.target)).sum

/-- R86 to R88: the registry holds at most 16 records in strictly rising ID, every ID lies in 1..127 and every label in 0..127, and a
label stands only on a coil that is covered and neither OBJECT nor OPEN. -/
structure State.RegistryKept (s : State) : Prop where
  size : s.ptk.registry.length ≤ 16
  sorted : (s.ptk.registry.map (·.id)).Pairwise (· < ·)
  ids : ∀ r ∈ s.ptk.registry, 1 ≤ r.id ∧ r.id ≤ 127
  ownLabels : ∀ c, s.ptk.labels.get c ≤ 127
  viewLabels : ∀ st c, ((s.svw.entries.get st).get c).label ≤ 127
  covered : ∀ c, s.ptk.labels.get c ≠ 0 →
    1 ≤ (s.prb.coils.get c).q ∧ (s.prb.coils.get c).condition ≠ .object
      ∧ (s.prb.coils.get c).condition ≠ .opened

/-- R87 to R89: every label of an own coil has its record, and a record that is HEARD, or HELD and LIFTED, is of a pan
that no own coil carries. -/
structure State.LabelsRecorded (s : State) : Prop where
  recorded : ∀ c, s.ptk.labels.get c ≠ 0 → ∃ r ∈ s.ptk.registry, r.id = s.ptk.labels.get c
  heard : ∀ r ∈ s.ptk.registry, r.role = .heard → ∀ c, s.ptk.labels.get c ≠ r.id
  lifted : ∀ r ∈ s.ptk.registry, r.role = .held → r.state = .lifted → ∀ c, s.ptk.labels.get c ≠ r.id

/-- R141, R148, R151, R153, R162: limits, wants, periods and densities keep their ranges, the station limit is the
lowest of its members, and S is the surface period of the entries as they stand. -/
structure State.PeriodsKept (s : State) : Prop where
  period : 853 ≤ s.fqu.s ∧ s.fqu.s ≤ 3200
  applied : 853 ≤ s.fqu.sApp ∧ s.fqu.sApp ≤ 3200
  members : ∀ c x, s.fqu.members.get c = some x →
    853 ≤ x.l0 ∧ x.l0 ≤ 3200 ∧ rangeLow x.l0 ≤ x.l ∧ x.l ≤ rangeHigh x.l0
  want : ∀ w, s.fqu.want = some w → 853 ≤ w ∧ w ≤ 3200
  limit : s.fqu.limit = s.lowestLimit
  surface : s.fqu.s = surfacePeriod s.periodEntries
  density : ∀ r ∈ s.drv.records,
    (r.state = .started → 1 ≤ r.n ∧ r.n ≤ 16) ∧ (r.state ≠ .started → r.n = 0) ∧ (r.on = true → r.state ≠ .waiting)

/-- Tables 2-1 and 3-1: the counters of the mains timing unit and of the probe unit keep their ranges. -/
structure State.CountersKept (s : State) : Prop where
  index : s.mtu.index < 16
  runs : s.mtu.goodRun ≤ 8 ∧ s.mtu.synthRun ≤ 3
  half : 7000 ≤ s.mtu.h ∧ s.mtu.h ≤ 11500
  quiet : s.prb.quietTimer ≤ 60000 ∧ s.prb.quietCount < 4
  baseline : ∀ c, s.straps.eMin ≤ (s.prb.coils.get c).e ∧ (s.prb.coils.get c).e ≤ s.straps.eMax
  coverage : ∀ c, (s.prb.coils.get c).q ≤ 4
  raw : ∀ c, (s.prb.coils.get c).pendingRaw.length ≤ 2 ∧ ∀ r ∈ (s.prb.coils.get c).pendingRaw, r ≤ 4
  coilRuns : ∀ c, (s.prb.coils.get c).baseRun ≤ 63 ∧ (s.prb.coils.get c).entryRun ≤ 2
    ∧ (s.prb.coils.get c).exitRun ≤ 2 ∧ (s.prb.coils.get c).openRun ≤ 2

/-- R55, R58, R61, R64: the counters keep their ranges, no two slots hold one pan ID, a station that has not joined
queues no PAN, and one in LISTEN queues nothing at all. -/
structure State.BusKept (s : State) : Prop where
  discards : s.tbi.discards ≤ 255
  sequence : s.tbi.seq < 256
  slots : s.tbi.slots.length ≤ 8
  keys : (s.tbi.slots.map (·.id)).Nodup
  joined : s.tbi.link ≠ .joined → (∀ x ∈ s.tbi.slots, x.queued = none)
    ∧ ∀ x, s.tbi.tx = some x → x.pan ≠ none → x.doomed = true
  listening : s.tbi.link = .listen → s.tbi.statusQueued = false ∧ s.tbi.change = false
    ∧ ∀ x, s.tbi.tx = some x → x.doomed = true

/-! ### Joining -/

/-- R59, R107, R108: `t` has made a request for every record that is HELD in `u`, in increasing ID: each that finds room
is queued with the record's content and starts both PAN timers, and the others are refused. That the requests carry the
targets of before the first pass is a DESIGN CHOICE (notes/assumptions/6.md), and that a refused request counts as the last
requested and starts no timer is DEDUCED (notes/assumptions/13.md). -/
structure State.HeldRequested (u t : State) : Prop where
  taken : ∀ r ∈ u.ptk.registry, r.role = .held →
    u.tbi.slots.length + (u.ptk.registry.filter fun r => r.role = .held).length ≤ 8 →
      (∃ x ∈ t.tbi.slots, x.id = r.id ∧ x.queued = some r.content) ∧
      ∃ v, t.record? r.id = some
        { r with period := some 0, spacing := some 0, refused := false, requested := some r.facts, tpNext := v }
  inOrder :
    let held := u.ptk.registry.filter fun r => r.role = .held
    let room := 8 - u.tbi.slots.length
    (∀ r ∈ held, ∀ x ∈ u.tbi.slots, x.id ≠ r.id) →
      t.tbi.slots = u.tbi.slots ++ (held.take room).map (fun r =>
        { id := r.id, queued := some r.content, line := none }) ∧
      (∀ r ∈ held.take room, ∃ v, t.record? r.id = some
        { r with period := some 0, spacing := some 0, refused := false, requested := some r.facts, tpNext := v }) ∧
      (∀ r ∈ held.drop room, ∃ v, t.record? r.id = some
        { r with refused := true, requested := some r.facts, tpNext := v }) ∧
      (room < held.length → t.tbi.refused = true)

/-- R62, R65, R95, R107: `t` has entered JOINED from `u`: its listen timer has stopped, its silence and stall timers
start, its first report tick has queued the STATUS and begun an allocation pass, a tracking pass is due, and every held
pan has been requested. -/
structure State.Joins (u t : State) : Prop where
  link : t.tbi.link = .joined
  timers : t.tbi.listen = none ∧ t.tbi.report = some 0 ∧ t.tbi.silence = 0 ∧ t.tbi.stall = 0
  status : t.tbi.statusQueued = true
  passes : t.lau.pass.isSome = true ∧ t.ptk.running = true
  requests : (u.ptk.registry.map (·.id)).Pairwise (· < ·) → State.HeldRequested u t

/-! ### Coils that become drivable -/

/-- R126, R141, R158: where pan `p`'s group runs in `t` and own coil `c` was no member of it in `s`, the coil has been
handed to the drive unit: the pan's WAITING and STARTED records list it and keep their state, density, offset and target,
and where one is STARTED the coil is driving, a drive member at the limit of its ring period. -/
def State.HandedToDrive (s t : State) (c : Fin 8) (p : Nat) : Prop :=
  (∃ g ∈ t.lau.groups, g.id = p ∧ 0 < g.scaled) → (∀ g ∈ s.lau.groups, g.id = p → g.members.get c = false) →
    (∀ r ∈ t.drv.records, r.id = p → r.state ≠ .ending → r.members.get c = true) ∧
    (∀ r ∈ s.drv.records, r.id = p → r.state ≠ .ending → (∃ k, r.members.get k = true ∧ t.drivableFor k = some p) →
      ∃ r' ∈ t.drv.records, r'.id = p ∧ r'.state = r.state ∧ r'.n = r.n ∧ r'.offset = r.offset ∧ r'.target = r.target) ∧
    ((∃ r ∈ t.drv.records, r.id = p ∧ r.state = .started) → (t.drv.coils.get c).driving = true ∧
      ∃ x, t.fqu.members.get c = some x ∧ x.l = startingLimit (s.prb.coils.get c).tres ∧ x.hard = 0)

/-! ### Contents that a frame can carry -/

/-- Table 12-3: a PAN content whose fields fit the frame, as R108 composes it. -/
structure PanContent.Legal (c : PanContent) : Prop where
  id : c.id < 128
  level : c.level ≤ 14
  anchor : c.anchor < 64
  box : ∀ b, c.box = some b → b.colMin < 16 ∧ b.colMax < 16 ∧ b.rowMin < 4 ∧ b.rowMax < 4
  weights : c.wp < 256 ∧ c.ws < 256
  target : c.tp < 4096
  remaining : c.remaining ≤ 60

/-- Tables 12-4 and 12-5: a STATUS content whose fields fit the frame, as R82 and R83 compose it. -/
structure StatusContent.Legal (c : StatusContent) : Prop where
  seq : c.seq < 256
  budget : c.budget < 4
  applied : 853 ≤ c.applied ∧ c.applied ≤ 3200
  watts : c.claim < 4096 ∧ c.demand < 4096
  limit : ∀ l, c.limit = some l → 853 ≤ l ∧ l ≤ 3200
  want : ∀ w, c.want = some w → 853 ≤ w ∧ w ≤ 3200
  discards : c.discards < 256
  coils : ∀ i, (c.coils.get i).q ≤ 4 ∧ (c.coils.get i).label < 128

end Sys2Proof.Machine
end

