-- ==== Sys2Proof/Certificates/Slice0/Obligations.lean ====
section
/-!
DEFINITION. The statements for the provers. Each names in its docstring the rules of spec/ it rests on. `s.advance dt`
is the state after `dt` microseconds in which nothing but time acts (R12; Obligations.TimersFollowTheClock says what it
changes). A `t` that equals a record update of it has every other field unchanged.
-/

open Sys2Proof Sys2Proof.Machine

/-! ### Reset and the step -/

/-- R11: entering reset drives every gate low, releases the line, and ends a frame or a probe in flight; the group
records and all else stand until the part leaves reset. -/
def Obligations.ResetEntryDrivesGatesLow : Prop :=
  ∀ (source : ResetSource) (s : State), ∃ t, exec (.resetEntry source) s = .next t ∧
    t.GatesLow ∧ t.drv.records = s.drv.records ∧
    (∀ c, t.drv.coils.get c =
      { s.drv.coils.get c with gates := none, inPeriod := false, tracked := false }) ∧
    t = { s with
      inReset := true
      supplyWasLow := t.supplyWasLow
      prb := { s.prb with inFlight := none }
      tbi := { s.tbi with tx := none, rx := .waitIdle }
      drv := t.drv }

/-- R7, R11 and the after-reset rule of every chapter (R27, R49, R71, R85, R113, R129, R137, R155, R169, R177): what
every block holds when the part leaves reset. The strap codes are those of Table 1-4, E_nom that of Table 1-6. -/
def Obligations.LeaveResetStartsAfresh : Prop :=
  ∀ (pins : StrapPins) (good trip : Bool) (s : State), s.inReset = true →
    ∃ t, exec (.leaveReset pins good trip) s = .next t ∧
      (t.inReset = false ∧ t.clock = 0 ∧ t.pending = s.pending) ∧
      (t.straps.tcol.val = 2 * bit pins.tcol1 + bit pins.tcol0 ∧ t.straps.trow.val = bit pins.trow0 ∧
        t.straps.supply = (if pins.supply0 then .b else .a) ∧
        t.straps.budget.val = 2 * bit pins.budget1 + bit pins.budget0 ∧
        t.straps.coilType.val = 2 * bit pins.ctype1 + bit pins.ctype0) ∧
      t.mtu =
        { last := 0, polarity := .falling, crossed := false, realSeen := false, h := 10000, synthRun := 0, goodRun := 0
          mains := .lost, index := 0, windowStart := 0, drive := .over, tracking := .over, leading := false } ∧
      (t.prb.pointer = 0 ∧ t.prb.quiet = false ∧ t.prb.quietTimer = 0 ∧ t.prb.quietCount = 0 ∧ t.prb.inFlight = none ∧
        ∀ c, t.prb.coils.get c =
          { discardDone := false, firstResult := false, e := [24, 20, 28, 22].getD t.straps.coilType.val 0
            tb := none, tres := none, q := 0, pendingRaw := [], baseRun := 0, entryRun := 0, exitRun := 0
            openRun := 0, object := false, opened := false, unfit := false }) ∧
      t.tbi =
        { link := .listen, listen := some 0, listenEnded := false, report := none, silence := 0, stall := 0
          heardOther := false, ownSent := false, conflict := none, statusQueued := false, slots := [], tx := none
          rx := .waitIdle, refused := false, spacing := none, change := false, seq := 0, discards := 0 } ∧
      (∀ st, t.svw.fresh.get st = false ∧ t.svw.ages.get st = none ∧
        t.svw.rows.get st =
          { supply := .a, claim := 0, demand := 0, limit := none, want := none, conflict := false
            protection := .armed, mains := .lost } ∧
        ∀ k, (t.svw.entries.get st).get k =
          { q := 0, condition := .clear, band := .normal, label := 0, driving := false }) ∧
      ((∀ c, t.ptk.labels.get c = 0) ∧ t.ptk.registry = [] ∧ t.ptk.seq = 0 ∧ t.ptk.running = false ∧
        t.ptk.further = false) ∧
      t.lau = { panelAge := none, present := false, enable := false, groups := [], demand := 0, pass := none } ∧
      t.bgu.claim = 0 ∧
      ((∀ c, t.fqu.members.get c = none) ∧ t.fqu.limit = none ∧ t.fqu.want = none ∧ t.fqu.s = 853 ∧
        t.fqu.sApp = 853) ∧
      (t.drv.records = [] ∧ t.GatesLow ∧ ∀ c, t.drv.coils.get c =
        { gates := none, inPeriod := false, tracked := false, periods := 0, len := 0, sampled := 0, acc := 0
          energy := 0, stopped := false, driving := false }) ∧
      (t.prt.state = (if trip then .tripped else .armed) ∧ t.prt.hold = (if trip then some 0 else none) ∧
        t.prt.sinceTrip = (if trip then some 0 else none) ∧ t.prt.tripInput = trip ∧ t.prt.gateGood = good ∧
        t.prt.conversion = none ∧ ∀ c, t.prt.bands.get c = .normal ∧ t.prt.readings.get c = none)

/-- R10: the cause recorded on leaving is POWER when the logic supply was below its threshold at any time since the part
entered reset, by the entry itself, by a second entry or by a brown-out within, and PIN otherwise. -/
def Obligations.ResetCauseIsRecorded : Prop :=
  (∀ s : State, s.inReset = true → exec .brownOutInReset s = .next { s with supplyWasLow := true }) ∧
  ∀ (source : ResetSource) (during : List Instr) (pins : StrapPins) (good trip : Bool) (s : State),
    s.inReset = false → (∀ i ∈ during, i.leavesReset = false) →
    ∃ u t, runAll (.resetEntry source :: during) s = .next u ∧ exec (.leaveReset pins good trip) u = .next t ∧
      t.cause = if source = .brownOut ∨ .brownOutInReset ∈ during ∨ .resetEntry .brownOut ∈ during
        then .power else .pin

/-- The state after reset has every invariant of the blocks. It rests on the setting of State.reset, a DESIGN CHOICE
(notes/assumptions/1.md). -/
def Obligations.ResetHasTheInvariants : Prop :=
  State.reset.ClaimKept ∧ State.reset.GatesKept ∧ State.reset.RegistryKept ∧ State.reset.LabelsRecorded ∧
    State.reset.PeriodsKept ∧ State.reset.CountersKept ∧ State.reset.BusKept

/-- A step takes the command at the front of the queue and runs it on the state with the rest. On an empty queue the
block idles (DESIGN CHOICE, notes/assumptions/2.md). -/
def Obligations.StepRunsTheFrontCommand : Prop :=
  (∀ (i : Instr) (rest : List Instr) (s : State), s.pending = i :: rest →
    step s = exec i { s with pending := rest }) ∧
  ∀ s : State, s.pending = [] → step s = .next s

/-- R7, R10, R11, R12: every command has a next state and leaves the queue alone; only LEAVE_RESET changes the straps and
the reset cause; out of reset the microsecond timer advances by the command's time, and in reset nothing happens. That every command is taken in
every state is DEDUCED (notes/assumptions/17.md), and that a command carries the time before it a DESIGN CHOICE
(notes/assumptions/2.md). -/
def Obligations.EveryCommandKeepsStrapsAndTime : Prop :=
  ∀ (i : Instr) (s : State), ∃ t, exec i s = .next t ∧ t.pending = s.pending ∧
    (i.leavesReset = false → t.straps = s.straps ∧ t.cause = s.cause) ∧
    (∀ dt, i.elapsed = some dt → s.inReset = false → t.clock = s.clock + dt ∧ t.inReset = false) ∧
    (∀ dt, i.elapsed = some dt → s.inReset = true → t = s)

/-- R12, and each timer's own rule (R45, R62, R63, R65, R66, R69, R76, R90, R91, R93, R94, R107, R114, R170, R172): when
only time acts, every running timer moves on by the milliseconds that pass, and stops at its end. That a timer's
millisecond is the millisecond timer's is DEDUCED (notes/assumptions/3.md), and that a timer waits at its end for the
command of that end is a DESIGN CHOICE (notes/assumptions/2.md). -/
def Obligations.TimersFollowTheClock : Prop :=
  ∀ (dt : Nat) (s : State), s.inReset = false → s.tbi.rx ≠ .waitIdle →
    ∃ t, exec (.lineIdle dt) s = .next t ∧ t = s.advance dt ∧
      let k := (s.clock + dt) / 1000 - s.clock / 1000
      let after := fun (top : Nat) (x : Option Nat) => x.map fun v => min top (v + k)
      t.clock = s.clock + dt ∧
      t.prb = { s.prb with quietTimer := if s.borderCovered then 0 else min 60000 (s.prb.quietTimer + k) } ∧
      t.tbi = { s.tbi with
        listen := after 300 s.tbi.listen
        report := after 100 s.tbi.report
        conflict := after 1000 s.tbi.conflict
        spacing := after 20 s.tbi.spacing
        silence := if s.tbi.link = .joined then min 250 (s.tbi.silence + k) else s.tbi.silence
        stall := if s.tbi.link ≠ .joined then s.tbi.stall
          else if s.tbi.statusQueued = false ∧ s.tbi.slots = [] ∧ s.tbi.tx = none then 0
          else min 250 (s.tbi.stall + k) } ∧
      (∀ st, t.svw.ages.get st = after 350 (s.svw.ages.get st)) ∧
      t.svw.entries = s.svw.entries ∧ t.svw.rows = s.svw.rows ∧ t.svw.fresh = s.svw.fresh ∧
      t.ptk = { s.ptk with registry := s.ptk.registry.map fun r =>
        { r with settle := after 1000 r.settle, stable := after 1000 r.stable, lifted := after 6000 r.lifted
                 age := min 1000 (r.age + k), period := after 250 r.period, spacing := after 20 r.spacing } } ∧
      t.lau = { s.lau with panelAge := after 1000 s.lau.panelAge } ∧
      t.prt = { s.prt with hold := after 2000 s.prt.hold, sinceTrip := after 30000 s.prt.sinceTrip } ∧
      t = { s with clock := t.clock, prb := t.prb, tbi := t.tbi, svw := t.svw, ptk := t.ptk, lau := t.lau, prt := t.prt }

/-! ### Mains timing -/

/-- R13 to R15, R17, R18, R21, R22: an edge inside the lockout is ignored, and only the samples its command carries are
taken (DESIGN CHOICE, notes/assumptions/4.md); any other is a real crossing, with its spacing, runs, mains state, window and half-cycle. An edge that comes after
the synthesis deadline, whose command was withheld, counts as real (DESIGN CHOICE, notes/assumptions/2.md). -/
def Obligations.EdgeIsIgnoredOrARealCrossing : Prop :=
  ∀ (dt : Nat) (p : Polarity) (samples : Oct (List Sample)) (s : State), s.inReset = false →
    (s.mtu.crossed = true → s.clock + dt < s.mtu.last + 2000 →
      exec (.zcEdge dt p samples) s = .next ((s.advance dt).takeSamples samples)) ∧
    (s.mtu.crossed = false ∨ s.mtu.last + 2000 ≤ s.clock + dt →
      ∃ t, exec (.zcEdge dt p samples) s = .next t ∧
        let now := s.clock + dt
        let spacing := now - s.mtu.last
        let good := s.mtu.realSeen = true ∧ 7000 ≤ spacing ∧ spacing ≤ 11500 ∧ p ≠ s.mtu.polarity
        let run := if good then min 8 (s.mtu.goodRun + 1) else 0
        let entersOk := s.mtu.mains = .lost ∧ run = 8
        let index := if entersOk then 0 else (s.mtu.index + 1) % 16
        t.mtu =
          { last := now, polarity := p, crossed := true, realSeen := true
            h := if good then spacing else s.mtu.h
            synthRun := 0, goodRun := run
            mains := if entersOk then .ok else s.mtu.mains
            index := index
            windowStart := if index = 0 then now else s.mtu.windowStart
            drive := .ahead, tracking := .ahead, leading := false })

/-- R16, R17, R19, R21, R22: at the synthesis deadline a crossing of the other polarity is synthesized, and the third in
a row brings OK to LOST. A deadline taken late is a crossing at its command's instant (DESIGN CHOICE,
notes/assumptions/2.md). -/
def Obligations.DeadlineSynthesizesACrossing : Prop :=
  ∀ (dt : Nat) (s : State), s.inReset = false → s.mtu.last + 5 * s.mtu.h / 4 ≤ s.clock + dt →
    ∃ t, exec (.synthesisDeadline dt) s = .next t ∧
      let now := s.clock + dt
      let run := min 3 (s.mtu.synthRun + 1)
      let index := (s.mtu.index + 1) % 16
      t.mtu =
        { last := now
          polarity := if s.mtu.polarity = .rising then .falling else .rising
          crossed := true, realSeen := s.mtu.realSeen, h := s.mtu.h
          synthRun := run, goodRun := 0
          mains := if s.mtu.mains = .ok ∧ run = 3 then .lost else s.mtu.mains
          index := index
          windowStart := if index = 0 then now else s.mtu.windowStart
          drive := .ahead, tracking := .ahead, leading := false }

/-- R149, R152, R159, R162, R163, R166: at every crossing the applied period takes S, the ENDING records are gone but for
those that became ENDING at this very instant, each group is decided ON or OFF by its pattern, and every coil starts the
half-cycle with its gates low, no energy and no stopped mark. The members of a removed record leave drive, their flags
cleared, unless a started record lists them; with no group started the want is none. R22, R166, R175: a crossing
that comes inside the drive span ends it, and the energies of the coils go into the window energy sums; one that comes
before the leading valley gap starts the temperature conversion. R20, R63: a change of the mains state is a STATUS change. That S is the one held before the crossing's own changes,
and that a coil of a started record beside stays, are the model's (notes/assumptions/7.md, notes/assumptions/26.md), and so are the unit of
the energies and the samples that the edge carries (notes/assumptions/4.md). -/
def Obligations.CrossingOpensTheHalfCycle : Prop :=
  ∀ (i : Instr) (now : Nat) (s : State), s.Crosses i now →
    ∃ t, exec i s = .next t ∧ t.fqu.sApp = s.fqu.s ∧ t.GatesLow ∧
      (∀ c, (t.drv.coils.get c).energy = 0 ∧ (t.drv.coils.get c).acc = 0 ∧ (t.drv.coils.get c).periods = 0 ∧
        (t.drv.coils.get c).stopped = false) ∧
      (∀ r ∈ t.drv.records, (r.state = .ending → r.endedAt = some now) ∧ r.period = none ∧
        (r.on = true ↔ r.state = .started ∧
          (t.mtu.index + r.offset) % 16 * r.n / 16 < ((t.mtu.index + r.offset) % 16 + 1) * r.n / 16)) ∧
      (∀ r ∈ s.drv.records, r.state = .ending → r.endedAt ≠ some now → ∀ c, r.members.get c = true →
        t.fqu.members.get c = none ∧ (t.drv.coils.get c).driving = false ∨
          ∃ x ∈ t.drv.records, x.state = .started ∧ x.members.get c = true) ∧
      ((∀ r ∈ t.drv.records, r.state = .waiting) → t.fqu.want = none) ∧
      (t.mtu.mains ≠ s.mtu.mains → s.tbi.link = .joined ∨ s.tbi.link = .isolated → t.tbi.statusQueued = true ∨ t.tbi.change = true) ∧
      (t.mtu.index ≠ 0 → (s.mtu.mains = .ok → t.mtu.mains = .ok) → ∀ r ∈ s.drv.records, r.state = .started →
        ∃ r' ∈ t.drv.records, r'.id = r.id ∧ r'.state = .started ∧ r'.members = r.members ∧ r'.target = r.target ∧
          r'.n = r.n ∧ r'.offset = r.offset ∧ r'.sum = r.sum + s.cutEnergy i r) ∧
      t.prt = { (s.advance (now - s.clock)).prt with
        conversion := if s.mtu.crossed = true ∧ s.mtu.leading = false then some now else s.prt.conversion }

/-- R24, R28, R30, R46: a crossing of the station's probe polarity begins a probe of the pair at the pointer and moves the
pointer, unless quiet mode leaves the slot unused; a change of mains state discards the probe; another crossing leaves
pointer and quiet count. -/
def Obligations.CrossingBeginsTheProbe : Prop :=
  ∀ (i : Instr) (now : Nat) (s : State), s.Crosses i now →
    ∃ t, exec i s = .next t ∧
      let mine := t.mtu.polarity = if (s.straps.tcol.val + s.straps.trow.val) % 2 = 0 then .rising else .falling
      let used := s.prb.quiet = false ∨ s.prb.quietCount = 0
      t.prb.pointer = (if mine ∧ used then s.prb.pointer + 1 else s.prb.pointer) ∧
      t.prb.quietCount = (if mine ∧ s.prb.quiet = true then (s.prb.quietCount + 1) % 4 else s.prb.quietCount) ∧
      t.prb.inFlight = (if mine ∧ used ∧ t.mtu.mains = s.mtu.mains
        then some { pair := s.prb.pointer, fired := false } else none) ∧
      t.prb.coils = s.prb.coils

/-- R150, R158, R167, R168: at a window end every started group is corrected by the error of its measured power against
the target it holds, its window energy sum returns to 0 and a pending stagger offset comes into force; the want rises by
16 when a group at density 16 fell short, falls by 16 when every group used 12 or less, and keeps its range. Where the
crossing comes inside the drive span, the energies it ends count (R22, R166); their unit and the samples that the edge
carries are a DESIGN CHOICE (notes/assumptions/4.md). -/
def Obligations.WindowEndCorrectsTheDensity : Prop :=
  ∀ (i : Instr) (now : Nat) (s : State), s.Crosses i now →
    ∃ t, exec i s = .next t ∧
      let window := now - s.mtu.windowStart
      let e := fun (r : GroupRecord) =>
        (r.target : Int) - (2 * ((r.sum + s.cutEnergy i r) * 1000) + window) / (2 * window)
      let th := fun (r : GroupRecord) => ((max 16 (r.target / 16) : Nat) : Int)
      (s.mtu.index = 15 → s.mtu.mains = .ok → t.mtu.mains = .ok →
        (∀ r ∈ s.drv.records, r.state = .started → 1 ≤ r.n → r.n ≤ 16 →
          ∃ r' ∈ t.drv.records, r'.id = r.id ∧ r'.state = .started ∧ r'.members = r.members ∧
            r'.target = r.target ∧ r'.sum = 0 ∧ r'.offset = r.offsetPending.getD r.offset ∧ r'.offsetPending = none ∧
            r'.n = if 4 * th r < e r then min 16 (r.n + 2)
              else if th r < e r then min 16 (r.n + 1)
              else if e r < -(4 * th r) then max 1 (r.n - 2)
              else if e r < -th r then max 1 (r.n - 1)
              else r.n) ∧
        ((∃ r ∈ s.drv.records, r.state = .started) → (∀ w, s.fqu.want = some w → 853 ≤ w ∧ w ≤ 3200) →
          t.fqu.want = s.fqu.want.map fun w =>
            if ∃ r ∈ s.drv.records, r.state = .started ∧ r.n = 16 ∧ th r < e r then min 3200 (w + 16)
            else if ∀ r ∈ s.drv.records, r.state = .started → r.n ≤ 12 then max 853 (w - 16)
            else w))

/-- R141, R146, R149, R157, R161: at a window start every WAITING record starts at density 2 with its master's stagger
offset, and its members become drive members at the limit of their ring period, when the station is joined, in OK, armed
and its gate supply good; otherwise it stays WAITING. Where no other group is started the want takes the station limit,
and the hard-switch counts return to 0. -/
def Obligations.WindowStartStartsWaitingGroups : Prop :=
  ∀ (i : Instr) (now : Nat) (s : State), s.Crosses i now →
    ∃ t, exec i s = .next t ∧
      (t.mtu.index = 0 → ∀ c x, t.fqu.members.get c = some x → x.hard = 0) ∧
      let may := s.tbi.link = .joined ∧ t.mtu.mains = .ok ∧ s.prt.state = .armed ∧ s.prt.gateGood = true
      (t.mtu.index = 0 → may → (∃ r ∈ s.drv.records, r.state = .waiting) →
        (∀ r ∈ s.drv.records, r.state = .waiting ∨ r.state = .ending ∧ r.endedAt ≠ some now) →
        t.fqu.want = t.fqu.limit ∧ t.fqu.limit = t.lowestLimit) ∧
      (t.mtu.index = 0 → ∀ r ∈ s.drv.records, r.state = .waiting →
        if may then
          (∃ r' ∈ t.drv.records, r'.id = r.id ∧ r'.state = .started ∧ r'.n = 2 ∧ r'.sum = 0 ∧
            r'.members = r.members ∧ r'.target = r.target ∧
            r'.offset = (5 * s.station.val + 3 * r.master.val) % 16) ∧
          ∀ c, r.members.get c = true →
            (t.drv.coils.get c).driving = true ∧
            let l0 := match (s.prb.coils.get c).tres with
              | none => 853
              | some x => max 853 (min 3200 (7 * x / 8))
            t.fqu.members.get c = some { l0 := l0, l := l0, count := 0, sum := 0, negative := false, hard := 0 }
        else ∃ r' ∈ t.drv.records, r'.id = r.id ∧ r'.state = .waiting ∧ r'.members = r.members ∧ r'.target = r.target)

/-! ### Probing -/

/-- R29, R30, R45, R46: the slot's opening fires the burst of the probe in flight: eight pulses into the probe terminal of
each coil of the pair whose open flag is off, and none into any other; before it, and without a probe in flight, no terminal
carries a pulse. The quiet timer at 60,000 ms begins quiet mode. -/
def Obligations.BurstFiresAndQuietModeBegins : Prop :=
  (∀ (dt : Nat) (f : Flight) (s : State), s.inReset = false → s.prb.inFlight = some f → f.fired = false →
    s.mtu.last + 100 ≤ s.clock + dt →
    ∃ t, exec (.probeSlotOpen dt) s = .next t ∧
      t = { s.advance dt with prb := { (s.advance dt).prb with inFlight := some { pair := f.pair, fired := true } } } ∧
      ∀ c, s.probeOutput c = 0 ∧ t.probeOutput c =
        if (c = (pairCoils f.pair).1 ∨ c = (pairCoils f.pair).2) ∧ (s.prb.coils.get c).opened = false then 8 else 0) ∧
  (∀ (c : Fin 8) (s : State), s.prb.inFlight = none → s.probeOutput c = 0) ∧
  ∀ (dt : Nat) (s : State), s.inReset = false → s.prb.quiet = false → s.borderCovered = false →
    60000 ≤ s.prb.quietTimer + ((s.clock + dt) / 1000 - s.clock / 1000) →
    exec (.quietTimerEnd dt) s = .next { s.advance dt with
      prb := { s.prb with quietTimer := 60000, quiet := true, quietCount := 0 } }

/-- R29, R32 to R36, R38, R39, R41, R42, R44: at the close of the slot each struck coil of the pair takes its reading:
the first is its discard probe, later ones move baseline, coverage, ring period, Tb, the object flag with its runs and
the UNFIT mark; a coil outside the pair and an OPEN coil keep theirs. Tb / 8 rounded down is DEDUCED
(notes/assumptions/8.md), and so is the ring period after a probe of raw coverage 0 while the reported coverage still
stands (notes/assumptions/9.md). DEDUCED too, against R42's word that a coil leaving OBJECT leaves to CLEAR, is that the
coverage follows R37 as the object flag clears, also where it stays 1 or more (notes/assumptions/28.md). R48, R63, R95: a probe that changes the coverage or the condition of a coil is a STATUS
change and starts a tracking pass, or a further one. R126: a coil that was drivable before joins no group. -/
def Obligations.SlotCloseProcessesTheReadings : Prop :=
  ∀ (dt : Nat) (lower higher : ProbeReading) (f : Flight) (s : State), s.inReset = false →
    s.prb.inFlight = some f → f.fired = true → s.mtu.last + 1400 ≤ s.clock + dt →
    ∃ t, exec (.probeSlotClose dt lower higher) s = .next t ∧ t.prb.inFlight = none ∧
      ((∃ c, (t.prb.coils.get c).q ≠ (s.prb.coils.get c).q ∨
          (t.prb.coils.get c).condition ≠ (s.prb.coils.get c).condition) →
        t.ptk.running = true ∧ (s.ptk.running = true → t.ptk.further = true) ∧
        (s.tbi.link = .joined ∨ s.tbi.link = .isolated → t.tbi.statusQueued = true ∨ t.tbi.change = true)) ∧
      (∀ c, s.drivable c = true → ∀ g ∈ t.lau.groups, g.members.get c = true →
        ∃ g₀ ∈ s.lau.groups, g₀.id = g.id ∧ g₀.members.get c = true) ∧
      ∀ c, let p := s.prb.coils.get c
        let p' := t.prb.coils.get c
        if c = (pairCoils f.pair).1 ∨ c = (pairCoils f.pair).2 then
          let reading := if c = (pairCoils f.pair).1 then lower else higher
          let n := min 31 (reading.waves.takeWhile (·.above)).length
          let start := fun k => ((reading.waves[k - 1]?).map (·.start)).getD 0
          let period := if n < 6 then none else some ((start 6 - start 2) / 2)
          let raw := if n < p.e then min 4 (5 * (p.e - n) / p.e) else 0
          (p.opened = true → p' = p) ∧
          (p.opened = false → p.discardDone = false → p' = { p with discardDone := true, tb := period }) ∧
          (p.opened = false → p.discardDone = true → ¬ (reading.lowCurrent = true ∧ 2 ≤ p.openRun) →
            p'.opened = false ∧ p'.firstResult = true ∧
            p'.openRun = (if reading.lowCurrent then p.openRun + 1 else 0) ∧
            p'.e = (if p.e < n then (if p.e < s.straps.eMax then p.e + 1 else p.e)
              else if n < p.e ∧ raw = 0 ∧ 63 ≤ p.baseRun then (if s.straps.eMin < p.e then p.e - 1 else p.e)
              else p.e) ∧
            p'.baseRun = (if n < p.e ∧ raw = 0 ∧ p.baseRun < 63 then p.baseRun + 1 else 0) ∧
            (p'.q, p'.pendingRaw) = debounce p.q p.pendingRaw raw ∧
            p'.tres = (if p'.q = 0 then none else if period.isSome then period else p.tres) ∧
            p'.tb = (if p.tb.isNone ∧ raw = 0 then period else p.tb) ∧
            (let test := 1 ≤ raw ∧ ∃ x y, period = some x ∧ p.tb = some y ∧ x < y - y / 8;
              (p'.object = true ↔ if p.object = true then ¬ (raw = 0 ∧ 2 ≤ p.exitRun) else test ∧ 2 ≤ p.entryRun) ∧
              (p.object = true → p'.exitRun = (if raw = 0 ∧ p.exitRun < 2 then p.exitRun + 1 else 0) ∧
                p'.entryRun = (if raw = 0 ∧ 2 ≤ p.exitRun then 0 else p.entryRun)) ∧
              (p.object = false → (test → p'.entryRun = (if p.entryRun < 2 then p.entryRun + 1 else 0)) ∧
                (¬ test → p'.entryRun = 0) ∧ p'.exitRun = (if p'.object = true then 0 else p.exitRun))) ∧
            (p'.unfit = true → p.unfit = true ∧ (p.object = true ∨ p'.object = false) ∧
              (p.condition = .clear ∨ p'.condition ≠ .clear)) ∧
            (p.unfit = true → p'.object = false → 1 ≤ p'.q → p'.unfit = true) ∧
            (1 ≤ raw → t.prb.quietTimer = 0 ∧ t.prb.quiet = false))
        else p' = p

/-- R33, R43, R87: the third low burst current in a row makes a coil OPEN: coverage 0, nothing pending, no ring period,
no other mark, no label, and a tracking pass is due. -/
def Obligations.ThirdLowCurrentOpensTheCoil : Prop :=
  ∀ (dt : Nat) (lower higher : ProbeReading) (f : Flight) (c : Fin 8) (s : State), s.inReset = false →
    s.prb.inFlight = some f → f.fired = true → s.mtu.last + 1400 ≤ s.clock + dt →
    (c = (pairCoils f.pair).1 ∧ lower.lowCurrent = true ∨ c = (pairCoils f.pair).2 ∧ higher.lowCurrent = true) →
    (s.prb.coils.get c).opened = false → (s.prb.coils.get c).discardDone = true → 2 ≤ (s.prb.coils.get c).openRun →
    ∃ t, exec (.probeSlotClose dt lower higher) s = .next t ∧
      (let p := t.prb.coils.get c
       p.opened = true ∧ p.condition = .opened ∧ p.q = 0 ∧ p.pendingRaw = [] ∧ p.tres = none ∧ p.object = false ∧
        p.unfit = false ∧ p.e = (s.prb.coils.get c).e ∧ p.tb = (s.prb.coils.get c).tb) ∧
      t.ptk.labels.get c = 0 ∧ t.ptk.running = true ∧ ∀ r ∈ t.drv.records, r.members.get c = false

/-- R37: the debounce. `pending` is the list of pending raw values and `q` the reported coverage. Coverage and pending
values of a coil change by the debounce of a raw value, by the coil's becoming OPEN and by reset alone, and the pending
values are in no STATUS. Which raw value a probe debounces is in SlotCloseProcessesTheReadings. -/
def Obligations.CoverageMovesByThreeProbes : Prop :=
  (∀ q pending, debounce q pending q = (q, [])) ∧
  (∀ q pending r, r ≠ q → pending.length < 2 → (∀ x ∈ pending, q < x ↔ q < r) →
    debounce q pending r = (q, pending ++ [r])) ∧
  (∀ q pending r, r ≠ q → (∃ x ∈ pending, ¬ (q < x ↔ q < r)) → debounce q pending r = (q, [r])) ∧
  (∀ q x y r, r ≠ q → x ≠ q → y ≠ q → (q < x ↔ q < r) → (q < y ↔ q < r) →
    ∃ m, debounce q [x, y] r = (m, []) ∧ (m = x ∨ m = y ∨ m = r) ∧ (q < m ↔ q < r) ∧ m ≠ q ∧
      2 ≤ [x, y, r].countP (· ≤ m) ∧ 2 ≤ [x, y, r].countP (m ≤ ·)) ∧
  (∀ q pending r, r ≠ q → pending.length ≤ 2 →
    (debounce q pending r).2.length ≤ 2 ∧ ∀ x ∈ (debounce q pending r).2, q < x ↔ q < r) ∧
  (∀ q pending r, q ≤ 4 → r ≤ 4 → (∀ x ∈ pending, x ≤ 4) → (debounce q pending r).1 ≤ 4) ∧
  (∀ p : CoilProbe, p.open_.pendingRaw = []) ∧
  (∀ (i : Instr) (c : Fin 8) (s t : State), i.leavesReset = false → exec i s = .next t →
    let p := s.prb.coils.get c
    let p' := t.prb.coils.get c
    (p'.q = p.q ∧ p'.pendingRaw = p.pendingRaw) ∨
      (∃ raw, raw ≤ 4 ∧ (p'.q, p'.pendingRaw) = debounce p.q p.pendingRaw raw) ∨
      p'.opened = true ∧ p'.q = 0 ∧ p'.pendingRaw = []) ∧
  ∀ (s : State) (c : Fin 8) (pending : List Nat),
    State.statusContent { s with prb := { s.prb with
      coils := s.prb.coils.set c { s.prb.coils.get c with pendingRaw := pending } } } = s.statusContent

/-! ### Marks of the half-cycle and the gates -/

/-- R23, R26, R143, R175: the leading valley gap drives every gate low and starts a temperature conversion; the tracking
span opens, and its close clears every negative mark. -/
def Obligations.ValleyAndTrackingMarks : Prop :=
  (∀ (dt : Nat) (s : State), s.inReset = false → s.mtu.crossed = true → s.mtu.leading = false →
    s.mtu.last + s.mtu.h ≤ s.clock + dt + 500 →
    ∃ t, exec (.valleyGapOpen dt) s = .next t ∧ t.GatesLow ∧ t.drv.records = s.drv.records ∧
      (∀ c, t.drv.coils.get c = { s.drv.coils.get c with gates := none }) ∧
      t = { s.advance dt with
        mtu := { s.mtu with leading := true }
        drv := t.drv
        prt := { (s.advance dt).prt with conversion := some (s.clock + dt) } }) ∧
  (∀ (dt : Nat) (s : State), s.inReset = false → s.mtu.tracking = .ahead → s.mtu.last + 2500 ≤ s.clock + dt →
    s.clock + dt + 1500 < s.mtu.last + s.mtu.h →
    exec (.trackingSpanOpen dt) s = .next { s.advance dt with mtu := { s.mtu with tracking := .running } }) ∧
  ∀ (dt : Nat) (s : State), s.inReset = false → s.mtu.tracking = .running →
    s.mtu.last + s.mtu.h ≤ s.clock + dt + 1500 →
    ∃ t, exec (.trackingSpanClose dt) s = .next t ∧
      (∀ c, t.fqu.members.get c = (s.fqu.members.get c).map fun x => { x with negative := false }) ∧
      t = { s.advance dt with
        mtu := { s.mtu with tracking := .over }
        fqu := { s.fqu with members := t.fqu.members } }

/-- R25, R153, R163 to R165: as the drive span opens, every group that is ON starts a period of the smaller of S_app and
the station limit, and nothing else of the records changes; its coils that may switch take the gate edges of R164, its
other coils stay low, and coils of no such group are untouched. -/
def Obligations.DriveSpanStartsThePeriods : Prop :=
  ∀ (dt : Nat) (s : State), s.inReset = false → s.mtu.drive = .ahead → s.mtu.last + 1500 ≤ s.clock + dt →
    s.clock + dt + 500 < s.mtu.last + s.mtu.h →
    ∃ t, exec (.driveSpanOpen dt) s = .next t ∧ t.mtu = { s.mtu with drive := .running } ∧
      let len := match s.fqu.limit with
        | none => s.fqu.sApp
        | some l => min s.fqu.sApp l
      t.drv.records = s.drv.records.map (fun r =>
        if r.on = true ∧ r.state ≠ .waiting then { r with period := some len, begun := 64 * (s.clock + dt) } else r) ∧
      (∀ c, (∃ r ∈ s.drv.records, r.on = true ∧ r.state ≠ .waiting ∧ s.onRecord? r.id = some r ∧
          r.members.get c = true) →
        let dead := [24, 32, 32, 40].getD s.straps.coilType.val 0
        let may := s.tbi.link = .joined ∧ s.mtu.mains = .ok ∧ s.prt.state = .armed ∧ s.prt.gateGood = true ∧
          s.drivable c = true ∧ (s.drv.coils.get c).stopped = false ∧ (s.fqu.members.get c).isSome = true
        t.drv.coils.get c =
          if may then
            { s.drv.coils.get c with
              gates := some { highOn := dead, highOff := len / 2, lowOn := len / 2 + dead, lowOff := 2 * (len / 2) }
              inPeriod := true, tracked := s.mtu.tracking == .running, len := len, sampled := 0 }
          else { s.drv.coils.get c with gates := none, inPeriod := false, tracked := false }) ∧
      (∀ c, (∀ p r, s.onRecord? p = some r → r.members.get c = false) → t.drv.coils.get c = s.drv.coils.get c) ∧
      t = { s.advance dt with mtu := t.mtu, drv := t.drv }

/-- R25, R163, R166: as the drive span closes every gate goes low; a coil's samples, up to sixteen in its period, each
product of current and voltage over a sixteenth of the period, complete its energy, and the whole mJ of it go into its
half-cycle energy and into the window energy sum of its started or ending group. The units of the samples, and that the
close carries them, are a DESIGN CHOICE (notes/assumptions/4.md), and so is that the energy adds to what the coil already
holds of the half-cycle (notes/assumptions/23.md). -/
def Obligations.DriveSpanCloseCompletesTheEnergies : Prop :=
  ∀ (dt : Nat) (samples : Oct (List Sample)) (s : State), s.inReset = false → s.mtu.drive = .running →
    s.mtu.last + s.mtu.h ≤ s.clock + dt + 500 →
    ∃ t, exec (.driveSpanClose dt samples) s = .next t ∧ t.GatesLow ∧
      let d := fun c => s.drv.coils.get c
      let taken := fun c => if (d c).inPeriod = true then (samples.get c).take (16 - (d c).sampled) else []
      let mj := fun c =>
        ((d c).acc + ((taken c).map fun x => x.current * x.voltage * ((d c).len : Int)).sum) / 1024000000
      (∀ c, t.drv.coils.get c = { d c with
        gates := none, inPeriod := false, tracked := false, acc := 0, sampled := (d c).sampled + (taken c).length
        energy := (d c).energy + mj c }) ∧
      t.drv.records = s.drv.records.map (fun r => { r with
        period := none
        sum := if r.state = .waiting then r.sum
          else r.sum + ((eight.filter fun c => r.members.get c).map mj).sum }) ∧
      t = { s.advance dt with mtu := { s.mtu with drive := .over }, drv := t.drv }

/-- R153, R163 to R166: outside the tracking span, when the switching period of a group that is ON has run its length,
the next starts where it ended, at the period that R153 gives then; each coil of the group that was in the period
completed it, and the samples taken in it add to its energy. Units and carrying of the samples are a DESIGN CHOICE
(notes/assumptions/4.md), and so is a start that is taken late (notes/assumptions/2.md). -/
def Obligations.NextPeriodTakesTheLimit : Prop :=
  ∀ (dt p old : Nat) (samples : Oct (List Sample)) (margins : Oct Int) (r : GroupRecord) (s : State),
    s.inReset = false → s.onRecord? p = some r → s.mtu.drive = .running → s.mtu.leading = false →
    s.mtu.tracking ≠ .running → r.period = some old → r.begun + old < 64 * (s.clock + dt) + 64 →
    ∃ t, exec (.switchingPeriodStart dt p samples margins) s = .next t ∧
      let len := match s.fqu.limit with
        | none => s.fqu.sApp
        | some l => min s.fqu.sApp l
      let next := { r with period := some len, begun := r.begun + old }
      t.onRecord? p = some next ∧
      t.drv.records = s.drv.records.map (fun x =>
        if x.id = p ∧ x.on = true ∧ x.state ≠ .waiting then { x with period := some len, begun := r.begun + old }
        else x) ∧
      (∀ c, let d := s.drv.coils.get c
        let d' := t.drv.coils.get c
        let taken := if d.inPeriod = true then (samples.get c).take (16 - d.sampled) else []
        d'.acc = d.acc + (taken.map fun x => x.current * x.voltage * (d.len : Int)).sum ∧
        d'.energy = d.energy ∧ d'.stopped = d.stopped ∧ d'.driving = d.driving ∧
        (r.members.get c = false →
          d' = { d with acc := d'.acc, sampled := d.sampled + taken.length }) ∧
        (r.members.get c = true → d'.periods = d.periods + (if d.inPeriod = true then 1 else 0) ∧
          if s.maySwitch c = true then
            d'.gates = some { highOn := s.straps.deadTime, highOff := len / 2, lowOn := len / 2 + s.straps.deadTime
                              lowOff := 2 * (len / 2) } ∧
              d'.inPeriod = true ∧ d'.len = len ∧ d'.sampled = 0
          else d'.gates = none ∧ d'.inPeriod = false)) ∧
      t = { s.advance dt with drv := t.drv }

/-- R143 to R146: a valid margin of a coil goes to its block, and the fourth moves the limit within the coil's range; a
second negative margin running is a hard-switch event, which lowers the limit and stops the coil; the eighth of a
window makes a COVERED coil UNFIT and takes it out of drive. That the four periods before count only when completed is a
DESIGN CHOICE (notes/assumptions/24.md). -/
def Obligations.MarginsMoveTheLimit : Prop :=
  ∀ (dt p old : Nat) (samples : Oct (List Sample)) (margins : Oct Int) (r : GroupRecord) (c : Fin 8) (x : Member) (s : State),
    s.inReset = false → s.onRecord? p = some r → s.mtu.drive = .running → s.mtu.leading = false →
    s.mtu.tracking = .running → r.period = some old → r.begun + old < 64 * (s.clock + dt) + 64 →
    r.members.get c = true →
    (s.drv.coils.get c).inPeriod = true → (s.drv.coils.get c).tracked = true → 4 ≤ (s.drv.coils.get c).periods →
    s.fqu.members.get c = some x →
    ∃ t, exec (.switchingPeriodStart dt p samples margins) s = .next t ∧
      let m := margins.get c
      (m < 0 ∧ x.negative = true → x.hard < 7 →
        t.fqu.members.get c = some
          { l0 := x.l0, l := max (max 853 (x.l0 - 64)) (x.l - 32), count := 0, sum := 0, negative := false
            hard := x.hard + 1 } ∧
        (t.drv.coils.get c).stopped = true ∧ (t.drv.coils.get c).gates = none) ∧
      (m < 0 ∧ x.negative = true → x.hard = 7 → (s.prb.coils.get c).condition = .covered →
        (t.prb.coils.get c).condition = .unfit ∧ t.fqu.members.get c = none ∧
        (t.drv.coils.get c).gates = none ∧ (t.drv.coils.get c).driving = false ∧
        ∀ r' ∈ t.drv.records, r'.members.get c = false) ∧
      (¬ (m < 0 ∧ x.negative = true) →
        t.fqu.members.get c = some
          (if x.count < 3 then
            { x with negative := decide (m < 0), count := x.count + 1, sum := x.sum + m }
          else
            { x with
              negative := decide (m < 0), count := 0, sum := 0
              l := if x.sum + m < 80 then max (max 853 (x.l0 - 64)) (x.l - 8)
                else if 196 ≤ x.sum + m then min (min 3200 (x.l0 + 64)) (x.l + 4)
                else x.l }))

/-- R162, R164: a density of n marks exactly n of the sixteen half-cycles, whatever the offset; within a period of P
counts the high gate is on from D to P/2 and the low gate from P/2 + D to 2 × (P/2), each for P/2 - D counts. -/
def Obligations.PatternsAndGateEdges : Prop :=
  (∀ o n, n ≤ 16 → ((List.range 16).filter fun h => patternOn h o n).length = n) ∧
  ∀ (t : Straps) (len : Nat), 853 ≤ len → len ≤ 3200 →
    (∀ k, (gateAt (some (gateTiming len t.deadTime)) k = .highOn ↔ t.deadTime ≤ k ∧ k < len / 2) ∧
      (gateAt (some (gateTiming len t.deadTime)) k = .lowOn ↔ len / 2 + t.deadTime ≤ k ∧ k < 2 * (len / 2))) ∧
    ((List.range len).filter fun k => gateAt (some (gateTiming len t.deadTime)) k = .highOn).length =
      len / 2 - t.deadTime ∧
    ((List.range len).filter fun k => gateAt (some (gateTiming len t.deadTime)) k = .lowOn).length =
      len / 2 - t.deadTime ∧
    386 ≤ len / 2 - t.deadTime ∧ len / 2 - t.deadTime ≤ 1576

/-- R63, R126, R158, R175, R176, Table 11-3: a conversion gives every coil a reading and a band; -20 to 350 °C is in range, HOT is entered
at 291 and left below 231, WARM is entered at 251 and left below 231. A change of band is a STATUS change. A coil that becomes drivable by it joins the running
group of its label and is handed to the drive unit as a new member; one that was drivable before, and changes between NORMAL and WARM or not at all, joins none, so a coil
that found no running group waits for the next tick's pass. -/
def Obligations.ConversionClassifiesTheCoils : Prop :=
  ∀ (dt : Nat) (readings : Oct Int) (start : Nat) (s : State), s.inReset = false → s.prt.conversion = some start →
    start + 400 ≤ s.clock + dt →
    ∃ t, exec (.temperatureConversionComplete dt readings) s = .next t ∧ t.prt.conversion = none ∧
      ∀ c, let r := readings.get c
        let b := s.prt.bands.get c
        t.prt.readings.get c = some r ∧
        (t.prt.bands.get c = .sensor ↔ r < -20 ∨ 350 < r) ∧
        (t.prt.bands.get c = .hot ↔ -20 ≤ r ∧ r ≤ 350 ∧ (291 ≤ r ∨ b = .hot ∧ 231 ≤ r)) ∧
        (t.prt.bands.get c = .warm ↔ -20 ≤ r ∧ r < 291 ∧ b ≠ .hot ∧ (251 ≤ r ∨ b = .warm ∧ 231 ≤ r)) ∧
        ((t.prt.bands.get c = .hot ∨ t.prt.bands.get c = .sensor) → b = .normal ∨ b = .warm →
          ∀ g ∈ t.drv.records, g.members.get c = false) ∧
        (s.drivable c = false → t.drivable c = true → ∀ g ∈ t.lau.groups, g.id = s.ptk.labels.get c → 0 < g.scaled →
          g.members.get c = true) ∧
        (s.drivable c = false → t.drivable c = true → State.HandedToDrive s t c (s.ptk.labels.get c)) ∧
        (t.prt.bands.get c ≠ b → s.tbi.link = .joined ∨ s.tbi.link = .isolated →
          t.tbi.statusQueued = true ∨ t.tbi.change = true) ∧
        (s.drivable c = true →
          (∀ g ∈ t.lau.groups, g.members.get c = true → ∃ g₀ ∈ s.lau.groups, g₀.id = g.id ∧ g₀.members.get c = true) ∧
          ∀ r ∈ t.drv.records, r.members.get c = true → ∃ r₀ ∈ s.drv.records, r₀.id = r.id ∧ r₀.members.get c = true)

/-! ### Reception -/

/-- R54, R55: a cut frame, a frame whose check fails and a frame of an unassigned or unaccepted source are counted, up to
255, and change nothing else but that the receiver waits for an idle line. -/
def Obligations.BadFramesAreOnlyCounted : Prop :=
  ∀ (dt : Nat) (s : State), s.inReset = false → s.tbi.rx ≠ .waitIdle →
    let counted : State := { s.advance dt with
      tbi := { (s.advance dt).tbi with rx := .waitIdle, discards := min 255 (s.tbi.discards + 1) } }
    exec (.frameCut dt) s = .next counted ∧
    (∀ env, checkMatches 0 env [] = false ∨ env.source ≠ 15 → exec (.allOff dt env) s = .next counted) ∧
    (∀ env (bs : Vector Byte 2), checkMatches 1 env bs.toList = false ∨ env.source ≠ 15 →
      exec (.level dt env bs) s = .next counted) ∧
    (∀ env (bs : Vector Byte 2), checkMatches 4 env bs.toList = false ∨ env.source ≠ 15 →
      exec (.beacon dt env bs) s = .next counted) ∧
    (∀ env (bs : Vector Byte 10), checkMatches 2 env bs.toList = false ∨ 8 ≤ env.source.val →
      exec (.pan dt env bs) s = .next counted) ∧
    ∀ env (bs : Vector Byte 35), checkMatches 3 env bs.toList = false ∨ 8 ≤ env.source.val →
      exec (.status dt env bs) s = .next counted

/-- R61, R68 to R70, R128, R136, R160: a PAN or STATUS that bears the station's own number brings CONFLICT: nothing of it is
handed on or counted, drive and every group end, the claim is 0, the PAN slots are emptied and a STATUS is queued. That an
allocation pass in progress is given up is DEDUCED (notes/assumptions/12.md). -/
def Obligations.OwnNumberBringsConflict : Prop :=
  ∀ (dt : Nat) (env : Envelope) (i : Instr) (s : State),
    ((∃ bs : Vector Byte 10, i = .pan dt env bs ∧ s.Receives 2 env bs.toList) ∨
      ∃ bs : Vector Byte 35, i = .status dt env bs ∧ s.Receives 3 env bs.toList) →
    env.source.val = s.station.val →
    ∃ t, exec i s = .next t ∧ t.tbi.link = .conflict ∧ t.tbi.discards = s.tbi.discards ∧
      t.svw = (s.advance dt).svw ∧ t.ptk.labels = s.ptk.labels ∧
      t.ptk.registry.map (·.id) = s.ptk.registry.map (·.id) ∧
      (s.tbi.link ≠ .conflict →
        t.DriveStopped ∧ State.EnergiesDiscarded s t ∧ t.drv.records = [] ∧ t.bgu.claim = 0 ∧
        t.lau = { (s.advance dt).lau with groups := [], pass := none } ∧
        t.tbi.conflict = some 0 ∧ t.tbi.statusQueued = true ∧ t.tbi.report = none ∧ t.tbi.listen = none ∧
        (∀ x ∈ t.tbi.slots, x.queued = none) ∧ ∀ x, t.tbi.tx = some x → x.doomed = true)

/-- R92, R115, R119, R125: an ALL-OFF sets every level of the registry to 0; the panel's silence of 1,000 ms sets the held
levels to 0 and the panel absent; both leave no held pan in HEATING, force every group target to 0 and leave no such group
waiting or started. -/
def Obligations.AllOffAndPanelLossForceZero : Prop :=
  (∀ (dt : Nat) (env : Envelope) (s : State), s.AcceptsPanel 0 env [] → s.RegistryKept →
    ∃ t, exec (.allOff dt env) s = .next t ∧
      (∀ r ∈ t.ptk.registry, r.level = 0) ∧
      (∀ g ∈ t.lau.groups, g.target = 0 ∧ g.scaled = 0) ∧
      (∀ r ∈ t.ptk.registry, r.role = .held → r.state ≠ .heating) ∧
      (¬ s.EndsIsolation → t.ptk.registry.map (·.id) = s.ptk.registry.map (·.id) ∧
        ∀ g ∈ s.lau.groups, ∀ r ∈ t.drv.records, r.id = g.id → r.state = .ending) ∧
      t.ptk.labels = s.ptk.labels ∧ t.lau.present = s.lau.present ∧ t.lau.enable = s.lau.enable) ∧
  ∀ (dt : Nat) (s : State), s.inReset = false → s.RegistryKept → s.lau.present = true →
    (s.advance dt).lau.panelAge = some 1000 →
    ∃ t, exec (.panelAgeExpiry dt) s = .next t ∧ t.lau.present = false ∧ t.lau.enable = false ∧
      (∀ r ∈ t.ptk.registry, r.role = .held → r.level = 0 ∧ r.state ≠ .heating) ∧
      (∀ g ∈ t.lau.groups, g.target = 0 ∧ g.scaled = 0) ∧
      (∀ g ∈ s.lau.groups, ∀ r ∈ t.drv.records, r.id = g.id → r.state = .ending) ∧
      t.ptk.labels = s.ptk.labels ∧ t.lau.demand = s.lau.demand ∧ t.bgu = s.bgu

/-- R56, R92, R106, R117: a LEVEL reaches the record of a pan that the station holds, with 15 taken as 14, and moves it
between IDLE and HEATING, which is a PAN change; a record that is not held, and every other record, is unchanged. A LEVEL
that leaves the level as it was changes nothing, also where the level and the state do not agree (DEDUCED against R92,
notes/assumptions/30.md). -/
def Obligations.LevelReachesTheHolder : Prop :=
  ∀ (dt : Nat) (env : Envelope) (bs : Vector Byte 2) (s : State), s.AcceptsPanel 1 env bs.toList → s.RegistryKept →
    ¬ s.EndsIsolation →
    ∃ t, exec (.level dt env bs) s = .next t ∧ t.ptk.labels = s.ptk.labels ∧ t.bgu = s.bgu ∧
      let p := bs[0].toNat
      let level := min 14 (bs[1].toNat % 16)
      let u := s.advance dt
      (∀ q, q ≠ p → t.record? q = u.record? q) ∧
      (∀ r, u.record? p = some r → r.role ≠ .held → t.record? p = some r) ∧
      (u.record? p = none → t.record? p = none) ∧
      (∀ r, u.record? p = some r → r.role = .held → r.level = level →
        t.ptk = u.ptk ∧ t.lau = u.lau ∧ t.drv = u.drv ∧ t.fqu = u.fqu ∧ t.tbi.slots = s.tbi.slots) ∧
      (∀ r, u.record? p = some r → r.role = .held → r.level ≠ level → p % 16 ≠ 0 →
        ∃ r', t.record? p = some r' ∧ r'.level = level ∧ r'.role = .held ∧ r'.anchor = r.anchor ∧ r'.ws = r.ws ∧
          r'.state = (match r.state with
            | .settling => .settling
            | .lifted => .lifted
            | .idle => if level = 0 then .idle else .heating
            | .heating => if level = 0 then .idle else .heating) ∧
          (r.state = .heating → level = 0 → ∀ g ∈ t.lau.groups, g.id = p → g.target = 0 ∧ g.scaled = 0) ∧
          (s.tbi.link = .joined → r.spacing ≠ none → r'.change = true) ∧
          (s.tbi.link = .joined → r.spacing = none → s.tbi.slots.length < 8 →
            ∃ x ∈ t.tbi.slots, x.id = p ∧ x.queued.any fun c => c.level == level))

/-- R57, R66, R114, R116: a BEACON makes the panel present with its enable and restarts the silence timer; an enable that
falls forces every target to 0. -/
def Obligations.BeaconMakesThePanelPresent : Prop :=
  ∀ (dt : Nat) (env : Envelope) (bs : Vector Byte 2) (s : State), s.AcceptsPanel 4 env bs.toList →
    ∃ t, exec (.beacon dt env bs) s = .next t ∧ t.lau.present = true ∧ t.lau.panelAge = some 0 ∧
      t.lau.enable = (bs[1].toNat % 2 == 1) ∧
      (s.lau.enable = true → bs[1].toNat % 2 = 0 → ∀ g ∈ t.lau.groups, g.target = 0 ∧ g.scaled = 0) ∧
      (s.tbi.link = .joined → t.tbi.silence = 0 ∧ t.ptk = (s.advance dt).ptk ∧ t.bgu = s.bgu)

/-- R56, R88, R89, R109, R110: what a PAN frame of another station does to a pan that the station does not hold: it is
stored as HEARD, in a full registry in place of the HEARD record with the greatest age, ties to the higher ID, that labels
no own coil, or not at all; or the record takes the frame's fields, or, on GONE, is withdrawn or removed; pan ID 0 does
nothing. That other multiples of 16 are followed like any ID is DEDUCED (notes/assumptions/15.md). -/
def Obligations.PanFramesUpdateTheRegistry : Prop :=
  ∀ (dt : Nat) (env : Envelope) (bs : Vector Byte 10) (src : Fin 8) (s : State), s.AcceptsFrom src 2 env bs.toList →
    ¬ s.EndsIsolation →
    ∃ t, exec (.pan dt env bs) s = .next t ∧ t.ptk.labels = s.ptk.labels ∧ t.svw = (s.advance dt).svw ∧
      let c := decodePan bs.toList
      let u := s.advance dt
      let stored := fun (st : PanState) => t.ptk.running = true ∧
        ∃ r, t.record? c.id = some r ∧ r.role = .heard ∧ r.holder = src ∧ r.state = st ∧ r.level = c.level ∧
          r.anchor = c.anchor ∧ r.box = c.box ∧ r.ws = c.ws ∧ r.wp = 0 ∧ r.age = 0
      let leaves := fun (x : PanRecord) => x ∈ u.ptk.registry ∧ x.role = .heard ∧ ∀ k, s.ptk.labels.get k ≠ x.id
      (c.id = 0 → t.ptk = u.ptk) ∧
      (c.id ≠ 0 → u.record? c.id = none → c.code = .gone → t.ptk = u.ptk) ∧
      (∀ st, c.id ≠ 0 → u.record? c.id = none → c.code = .live st → s.ptk.registry.length < 16 →
        stored st ∧ ∀ q, q ≠ c.id → t.record? q = u.record? q) ∧
      (∀ st, c.id ≠ 0 → u.record? c.id = none → c.code = .live st → 16 ≤ s.ptk.registry.length →
        ((∀ x, ¬ leaves x) → t.ptk = u.ptk) ∧
        ∀ x, leaves x → (∀ y, leaves y → y = x ∨ y.age < x.age ∨ y.age = x.age ∧ y.id < x.id) →
          stored st ∧ t.record? x.id = none ∧ ∀ q, q ≠ c.id → q ≠ x.id → t.record? q = u.record? q) ∧
      (∀ r st, c.id ≠ 0 → u.record? c.id = some r → r.role ≠ .held → c.code = .live st →
        t.record? c.id = some { r with
          state := st, level := c.level, anchor := c.anchor, box := c.box, ws := c.ws, holder := src, age := 0
          withdrawn := false } ∧
        (r.state ≠ st → t.ptk.running = true) ∧ ∀ q, q ≠ c.id → t.record? q = u.record? q) ∧
      ∀ r, c.id ≠ 0 → u.record? c.id = some r → r.role ≠ .held → c.code = .gone →
        t.ptk.running = true ∧ (∀ q, q ≠ c.id → t.record? q = u.record? q) ∧
        t.record? c.id = if s.carries c.id then some { r with age := 0, withdrawn := true } else none

/-- R58, R59, R90, R95, R105, R106, R107, R110, R111, R125: a PAN frame for a pan that the station itself holds. The
holding passes to the sender, with the fields of the frame, its timers stopped and its PAN marks dropped, when the frame
has the pan resumed while the record is LIFTED, or gives it a lower anchor, or the same anchor by the ties of R111;
LIFTED for a pan that is not lifted here is old news. Otherwise the record stays HELD with all its fields but its
last-heard age, which returns to 0: old news does no more, and any other such frame is a PAN change, which in JOINED sets
the change mark while the spacing timer runs and otherwise makes the request, taken or refused by the slots. That a
refused request counts as the last requested and starts no timer is DEDUCED (notes/assumptions/13.md). A GONE for
it is ignored: only the last-heard age returns to 0. In every case no other record and no label changes. -/
def Obligations.PanFramesContestTheHolding : Prop :=
  ∀ (dt : Nat) (env : Envelope) (bs : Vector Byte 10) (src : Fin 8) (r : PanRecord) (s : State),
    s.AcceptsFrom src 2 env bs.toList → ¬ s.EndsIsolation →
    (decodePan bs.toList).id ≠ 0 → (s.advance dt).record? (decodePan bs.toList).id = some r → r.role = .held →
    ∃ t r', exec (.pan dt env bs) s = .next t ∧ t.record? (decodePan bs.toList).id = some r' ∧ r'.age = 0 ∧
      let c := decodePan bs.toList
      (c.code = .gone → r' = { r with age := 0 } ∧ (∀ q, q ≠ c.id → t.record? q = (s.advance dt).record? q) ∧
        t = { s.advance dt with
          tbi := { (s.advance dt).tbi with rx := .waitIdle, silence := t.tbi.silence, heardOther := t.tbi.heardOther }
          ptk := { s.ptk with registry := t.ptk.registry } }) ∧
      ∀ st, c.code = .live st →
        let oldNews := st = .lifted ∧ r.state ≠ .lifted
        let resumed := r.state = .lifted ∧ (st = .idle ∨ st = .heating)
        let loses := c.anchor < r.anchor ∨ c.anchor = r.anchor ∧
          (ownerOf c.anchor = src ∨ ownerOf c.anchor ≠ s.station ∧ src.val < s.station.val)
        if ¬ oldNews ∧ (resumed ∨ loses) then
          r' = { r with
            role := if ¬ resumed ∧ s.carries c.id then .shared else .heard
            holder := src, state := st, level := c.level, anchor := c.anchor, box := c.box, ws := c.ws, age := 0
            settle := none, stable := none, lifted := none, period := none, spacing := none, change := false
            refused := false, requested := none } ∧
          (∀ q, q ≠ c.id → t.record? q = (s.advance dt).record? q) ∧ t.ptk.labels = s.ptk.labels ∧
          t.tbi.slots = s.tbi.slots ∧
          (st ≠ r.state → t.ptk.running = true) ∧
          (r.state = .heating → st ≠ .heating → ∀ g ∈ t.lau.groups, g.id = c.id → g.target = 0 ∧ g.scaled = 0)
        else
          let facts : PanFacts :=
            { state := r.state, level := r.level, anchor := r.anchor, box := r.box, wp := r.wp, ws := r.ws }
          (∀ q, q ≠ c.id → t.record? q = (s.advance dt).record? q) ∧
          t = { s.advance dt with
            tbi := { (s.advance dt).tbi with
              rx := .waitIdle, silence := t.tbi.silence, heardOther := t.tbi.heardOther
              slots := t.tbi.slots, refused := t.tbi.refused }
            ptk := { s.ptk with registry := t.ptk.registry } } ∧
          (oldNews ∨ s.tbi.link ≠ .joined → r' = { r with age := 0 } ∧ t.tbi.slots = s.tbi.slots) ∧
          (¬ oldNews → s.tbi.link = .joined →
            (r.spacing ≠ none → r' = { r with age := 0, change := true } ∧ t.tbi.slots = s.tbi.slots) ∧
            (r.spacing = none → s.tbi.slots.length < 8 ∨ (∃ x ∈ s.tbi.slots, x.id = c.id) →
              r' = { r with age := 0, period := some 0, spacing := some 0, refused := false, requested := some facts } ∧
              ∃ x ∈ t.tbi.slots, x.id = c.id ∧ x.queued = some r.content) ∧
            (r.spacing = none → 8 ≤ s.tbi.slots.length → (∀ x ∈ s.tbi.slots, x.id ≠ c.id) →
              r' = { r with age := 0, refused := true, requested := some facts } ∧
              t.tbi.slots = s.tbi.slots ∧ t.tbi.refused = true))

/-- R45, R47, R74 to R76, R81, R131, R151: a STATUS of another station is written into the view as one event, and the
surface period, the quiet mode and the tracking trigger follow it; a review in progress may use the row's earlier or its
new claim and demand (notes/assumptions/5.md). -/
def Obligations.StatusIsWrittenIntoTheView : Prop :=
  ∀ (dt : Nat) (env : Envelope) (bs : Vector Byte 35) (src : Fin 8) (s : State), s.AcceptsFrom src 3 env bs.toList →
    ¬ s.EndsIsolation →
    ∃ t, exec (.status dt env bs) s = .next t ∧
      let c := decodeStatus bs.toList
      t.svw.entries.get src = c.coils ∧
      t.svw.rows.get src =
        { supply := c.supply, claim := c.claim, demand := c.demand, limit := c.limit, want := c.want
          conflict := c.conflict, protection := c.protection, mains := c.mains } ∧
      t.svw.ages.get src = some 0 ∧ t.svw.fresh.get src = true ∧
      (∀ st, st ≠ src → t.svw.entries.get st = s.svw.entries.get st ∧ t.svw.rows.get st = s.svw.rows.get st ∧
        t.svw.fresh.get st = s.svw.fresh.get st) ∧
      t.fqu.s = surfacePeriod t.periodEntries ∧ t.fqu.sApp = s.fqu.sApp ∧
      (t.borderCovered = true → t.prb.quiet = false ∧ t.prb.quietTimer = 0) ∧
      ((s.svw.fresh.get src = false ∨ ∃ k, ((s.svw.entries.get src).get k).q ≠ (c.coils.get k).q ∨
          ((s.svw.entries.get src).get k).label ≠ (c.coils.get k).label) → t.ptk.running = true) ∧
      (s.tbi.link = .joined → t.tbi.silence = 0) ∧ t.ptk.labels = s.ptk.labels ∧ t.bgu = s.bgu ∧
      t.prb.coils = s.prb.coils ∧
      (s.lau.pass = none → t.lau = (s.advance dt).lau) ∧
      ∀ p, s.lau.pass = some p → ∃ p', t.lau = { (s.advance dt).lau with pass := some p' } ∧
        p'.demand = p.demand ∧ p'.groups.map (·.target) = p.groups.map (·.target) ∧
        (p'.claim = p.claim ∧ p'.groups = p.groups ∨
          p.read.get src = false ∧ p'.peers = p.peers.set src (t.claimant src) ∧
            ∀ x, p.own = some x →
              p'.claim = review s.straps.watts x p.demand (eight.filterMap p'.peers.get))

/-- R64, R75: two STATUS frames of one station that agree in the coil entries and in the fields of the peer row have the
same effect, whatever their sequence numbers, reset causes, quiet flags, budget codes, applied periods and discard
counts. -/
def Obligations.StatusSequenceHasNoEffect : Prop :=
  ∀ (dt : Nat) (e₁ e₂ : Envelope) (b₁ b₂ : Vector Byte 35) (s : State),
    checkMatches 3 e₁ b₁.toList = true → checkMatches 3 e₂ b₂.toList = true → e₁.source = e₂.source →
    (let c := decodeStatus b₁.toList
     let d := decodeStatus b₂.toList
     c.coils = d.coils ∧ c.supply = d.supply ∧ c.claim = d.claim ∧ c.demand = d.demand ∧ c.limit = d.limit ∧
      c.want = d.want ∧ c.conflict = d.conflict ∧ c.protection = d.protection ∧ c.mains = d.mains) →
    exec (.status dt e₁ b₁) s = exec (.status dt e₂ b₂) s

/-! ### Transmission and the timers of the bus -/

/-- R50, R58, R60, R64, R82, R83, R178: at an idle line the earliest queued PAN begins, before any STATUS; a STATUS is
composed as it begins, from the fields as they stand, with claim and demand 0 unless the station is joined and armed, and
its change mark is cleared. The frame goes out in characters of ten bits, and at no bit of it is the line idle. Where the
station has read another's start bit before, it does not begin and receives that frame; that TRANSMIT_START says so is a
DESIGN CHOICE (notes/assumptions/10.md). -/
def Obligations.TransmissionBeginsWithThePan : Prop :=
  (∀ (dt : Nat) (s : State), s.inReset = false → s.tbi.rx = .idle → s.tbi.tx = none →
    exec (.transmitStart ⟨dt, true⟩) s = .next { s.advance dt with tbi := { (s.advance dt).tbi with rx := .receiving } }) ∧
  (∀ frame n, idleAfter ((frameBits frame).take n) = false) ∧
  ∀ (dt : Nat) (s : State), s.inReset = false → s.tbi.rx = .idle → s.tbi.tx = none → (s.tbi.slots.map (·.id)).Nodup →
    ∃ t, exec (.transmitStart ⟨dt, false⟩) s = .next t ∧
      t = { s.advance dt with tbi := t.tbi } ∧ t.tbi.seq = s.tbi.seq ∧ t.tbi.discards = s.tbi.discards ∧
      (∀ x k b, t.tbi.tx = some x → x.frame[k]? = some b →
        t.lineOutput (10 * k) = false ∧ t.lineOutput (10 * k + 9) = true ∧
        ∀ j, j < 8 → t.lineOutput (10 * k + 1 + j) = b.toNat.testBit (7 - j)) ∧
      (t.tbi.tx.isSome = true → t.tbi.rx = .waitIdle) ∧
      (∀ before x after c, s.tbi.slots = before ++ x :: after → (∀ y ∈ before, y.queued = none) →
        x.queued = some c →
        t.tbi.tx = some { pan := some x.id, frame := frameOf 2 s.station.val (encodePan c), doomed := false } ∧
        t.tbi.slots = before ++ { x with queued := none, line := some c } :: after ∧
        t.tbi.statusQueued = s.tbi.statusQueued ∧ t.tbi.change = s.tbi.change) ∧
      ((∀ y ∈ s.tbi.slots, y.queued = none) → s.tbi.statusQueued = true →
        t.tbi.statusQueued = false ∧ t.tbi.change = false ∧ t.tbi.slots = s.tbi.slots ∧
        ∃ c, t.tbi.tx = some { pan := none, frame := frameOf 3 s.station.val (encodeStatus c), doomed := false } ∧
          c.seq = s.tbi.seq ∧ c.discards = s.tbi.discards ∧ c.limit = s.fqu.limit ∧ c.want = s.fqu.want ∧
          c.claim = (if s.tbi.link = .joined ∧ s.prt.state = .armed then s.bgu.claim else 0) ∧
          c.demand = (if s.tbi.link = .joined ∧ s.prt.state = .armed then min 4095 s.lau.demand else 0) ∧
          (c.conflict = true ↔ s.tbi.link = .conflict) ∧ c.protection = s.prt.state ∧ c.gateGood = s.prt.gateGood ∧
          c.mains = s.mtu.mains ∧ c.quiet = s.prb.quiet ∧ c.cause = s.cause ∧ c.supply = s.straps.supply ∧
          c.budget = s.straps.budget.val ∧ c.applied = s.fqu.sApp ∧
          ∀ k, (c.coils.get k).band = s.prt.bands.get k ∧ (c.coils.get k).q = (s.prb.coils.get k).q ∧ (c.coils.get k).label = s.ptk.labels.get k ∧
            (c.coils.get k).condition = (s.prb.coils.get k).condition ∧
            ((c.coils.get k).driving = true ↔ (s.drv.coils.get k).driving = true ∧ s.tbi.link = .joined)) ∧
      ((∀ y ∈ s.tbi.slots, y.queued = none) → s.tbi.statusQueued = false → t = s.advance dt)

/-- R53, R58, R59, R63, R64, R66, R67, R108: a STATUS sent takes the next sequence number, starts the spacing and counts
as seen where the station is isolated; a PAN sent frees its slot, or leaves the newer content queued in its place. A slot
that empties renews the refused requests in increasing ID, as many as find room. That a STATUS sent in CONFLICT or LISTEN
starts the spacing is DEDUCED (notes/assumptions/16.md). -/
def Obligations.SuccessEmptiesTheSlot : Prop :=
  ∀ (dt : Nat) (x : Tx) (s : State), s.inReset = false → s.tbi.tx = some x →
    ¬ (x.pan = none ∧ s.tbi.link = .isolated ∧ s.tbi.heardOther = true) →
    ∃ t, exec (.transmitSuccess dt) s = .next t ∧ t.tbi.tx = none ∧ t.tbi.rx = .waitIdle ∧ t.tbi.stall = 0 ∧
      t.tbi.discards = s.tbi.discards ∧ t.tbi.link = s.tbi.link ∧ t.svw = (s.advance dt).svw ∧
      t.ptk.labels = s.ptk.labels ∧ t.tbi.statusQueued = s.tbi.statusQueued ∧ t.tbi.change = s.tbi.change ∧
      (x.pan = none → t.tbi.seq = (s.tbi.seq + 1) % 256 ∧ t.tbi.spacing = some 0 ∧ t.tbi.slots = s.tbi.slots ∧
        (t.tbi.ownSent = true ↔ s.tbi.ownSent = true ∨ s.tbi.link = .isolated)) ∧
      ∀ p, x.pan = some p → t.tbi.seq = s.tbi.seq ∧
        let left := s.tbi.slots.filterMap fun y =>
          if y.id = p ∧ y.line.isSome then
            (if y.queued.isSome then some { y with line := none } else none)
          else some y
        let waiting := (s.advance dt).ptk.registry.filter fun r => r.role = .held ∧ r.refused = true
        let room := 8 - left.length
        (s.tbi.refused = false ∨ x.doomed = true ∨ left.length = s.tbi.slots.length → t.tbi.slots = left ∧
          t.tbi.refused = s.tbi.refused ∧ t.ptk = (s.advance dt).ptk) ∧
        (s.tbi.refused = true → x.doomed = false → left.length < s.tbi.slots.length → s.tbi.link = .joined →
          (s.ptk.registry.map (·.id)).Pairwise (· < ·) → (∀ r ∈ waiting, ∀ y ∈ left, y.id ≠ r.id) →
          t.tbi.slots = left ++ (waiting.take room).map (fun r =>
            { id := r.id, queued := some r.content, line := none }) ∧
          (t.tbi.refused = true ↔ room < waiting.length) ∧
          (∀ r ∈ waiting.take room, t.record? r.id = some
            { r with period := some 0, spacing := some 0, refused := false, requested := some r.facts }) ∧
          (∀ r ∈ waiting.drop room, ∃ r', t.record? r.id = some r' ∧ r'.refused = true) ∧
          ∀ q, (∀ r ∈ waiting, r.id ≠ q) → t.record? q = (s.advance dt).record? q)

/-- R52, R53, R58, R61, R66: a frame that loses arbitration or meets a mismatch stays in its slot, in its place, with the
newer content if there is one, unless its slot was to be emptied; nothing is counted and no timer restarts. -/
def Obligations.FailedFramesKeepTheirPlace : Prop :=
  ∀ (dt : Nat) (x : Tx) (i : Instr) (s : State), s.inReset = false → s.tbi.tx = some x →
    i = .transmitMismatch dt ∨ i = .arbitrationLost dt →
    ∃ t, exec i s = .next t ∧
      t = { s.advance dt with tbi := { (s.advance dt).tbi with
        tx := none, rx := .receiving, statusQueued := t.tbi.statusQueued, slots := t.tbi.slots } } ∧
      (x.pan = none → t.tbi.slots = s.tbi.slots ∧
        (t.tbi.statusQueued = true ↔ s.tbi.statusQueued = true ∨ x.doomed = false)) ∧
      ∀ p, x.pan = some p → t.tbi.statusQueued = s.tbi.statusQueued ∧
        (x.doomed = false → t.tbi.slots = s.tbi.slots.map fun y =>
          if y.id = p ∧ y.line.isSome then
            { y with queued := if y.queued.isSome then y.queued else y.line, line := none }
          else y) ∧
        (x.doomed = true → (∀ y ∈ s.tbi.slots, y.id = p → y.queued = none) →
          t.tbi.slots = s.tbi.slots.filter fun y => !(y.id == p && y.line.isSome))

/-- R8, R62, R75, R78, R79, R120 to R124, R130, R131: a report tick queues the STATUS and begins an allocation pass. The
weight of an entry is its coverage, at most 2 when it is WARM, and 0 unless it is COVERED, labelled and neither HOT nor
SENSOR; a stale entry has none. The claims and demands reviewed are those of the fresh rows of the own supply circuit, 0 of
a row in CONFLICT or not ARMED, against the budget of the strapped code. Its pan targets are the
smaller of the level power and 110 W a quarter where the pan heats and the panel is present and enabled, and 0 otherwise;
its groups have the own drivable coils of each label and their share of the pan target; its claim keeps within demand and
budget and bounds the scaled targets. What the station holds stands until the pass ends. That a pass still in progress at
the tick is given up for the new one is a DESIGN CHOICE (notes/assumptions/34.md), and so is that a label that is a
multiple of 16 other than 0 counts as a pan ID (notes/assumptions/36.md). -/
def Obligations.ReportTickBeginsThePass : Prop :=
  ∀ (dt : Nat) (s : State), s.inReset = false → s.tbi.link = .joined ∨ s.tbi.link = .isolated →
    (s.advance dt).tbi.report = some 100 →
    let budget := [3680, 2990, 2300, 1840].getD s.straps.budget.val 0
    let peers := eight.filterMap fun st =>
      let row := s.svw.rows.get st
      if st ≠ s.station ∧ s.svw.fresh.get st = true ∧ row.supply = s.straps.supply then
        some (if row.conflict = true ∨ row.protection ≠ .armed then (0, 0) else (row.claim, row.demand))
      else none
    let weight := fun (e : Entry) =>
      if e.condition = .covered ∧ e.label ≠ 0 then
        (match e.band with
          | .normal => e.q
          | .warm => min e.q 2
          | .hot => 0
          | .sensor => 0)
      else 0
    let panWeight := fun id => ((List.range 64).map fun i =>
      if s.freshEntry i = true ∧ (s.entry i).label = id then weight (s.entry i) else 0).sum
    ∃ t p, exec (.reportTick dt) s = .next t ∧ t.tbi.report = some 0 ∧ t.tbi.statusQueued = true ∧
      t.lau.pass = some p ∧ p.demand = (p.groups.map (·.target)).sum ∧ p.claim ≤ p.demand ∧
      p.claim ≤ budget ∧ (p.groups.map (·.scaled)).sum ≤ p.claim ∧
      p.claim = (if s.tbi.link = .joined ∧ s.prt.state = .armed then review budget s.bgu.claim p.demand peers else 0) ∧
      (p.claim = p.demand → ∀ g ∈ p.groups, g.scaled = g.target) ∧
      (∀ g ∈ p.groups, g.scaled = if p.demand ≤ p.claim then g.target else g.target * p.claim / p.demand) ∧
      t.lau.groups = s.lau.groups ∧ t.lau.demand = s.lau.demand ∧ t.bgu = s.bgu ∧ t.drv = s.drv ∧
      let target := fun (r : PanRecord) =>
        if r.state = .heating ∧ s.lau.present = true ∧ s.lau.enable = true then
          min ([0, 100, 150, 200, 300, 400, 550, 700, 900, 1100, 1400, 1700, 2000, 2400, 2800].getD r.level 2800)
            (110 * panWeight r.id)
        else 0
      let drivable := fun c => 1 ≤ weight (s.ownEntry c)
      t.ptk = { s.ptk with registry := (s.advance dt).ptk.registry.map fun r =>
        { r with tpNext := if r.role = .held ∨ s.carries r.id = true then some (target r) else none } } ∧
      (p.groups.map (·.id)).Sublist (s.ptk.registry.map (·.id)) ∧
      (∀ g ∈ p.groups, (∃ c, g.members.get c = true) ∧
        (∀ c, g.members.get c = true ↔ drivable c ∧ s.ptk.labels.get c = g.id) ∧
        ∃ r ∈ s.ptk.registry, r.id = g.id ∧
          g.target = target r * ((eight.filter fun c => g.members.get c).map fun c => weight (s.ownEntry c)).sum /
            panWeight g.id) ∧
      ∀ c, drivable c → (∃ r ∈ s.ptk.registry, r.id = s.ptk.labels.get c) →
        ∃ g ∈ p.groups, g.id = s.ptk.labels.get c

/-- R50, R54, R63, R69: the end of the STATUS spacing queues a STATUS whose change mark is set; the conflict repeat timer
queues it again every 1,000 ms, behind the one on the line if there is one (DESIGN CHOICE, notes/assumptions/29.md); an
idle line lets the receiver take a start of frame. -/
def Obligations.BusTimersQueueTheStatus : Prop :=
  (∀ (dt : Nat) (s : State), s.inReset = false → (s.advance dt).tbi.spacing = some 20 →
    ∃ t, exec (.spacingTimerEnd dt) s = .next t ∧
      t = { s.advance dt with tbi := { (s.advance dt).tbi with
        spacing := none, statusQueued := t.tbi.statusQueued } } ∧
      (t.tbi.statusQueued = true ↔ s.tbi.statusQueued = true ∨
        s.tbi.change = true ∧ ∀ x, s.tbi.tx = some x → x.pan ≠ none)) ∧
  (∀ (dt : Nat) (s : State), s.inReset = false → s.tbi.link = .conflict → (s.advance dt).tbi.conflict = some 1000 →
    exec (.conflictRepeatTimerEnd dt) s = .next { s.advance dt with
      tbi := { (s.advance dt).tbi with conflict := some 0, statusQueued := true } }) ∧
  ∀ (dt : Nat) (s : State), s.inReset = false → s.tbi.rx = .waitIdle → s.tbi.tx = none →
    exec (.lineIdle dt) s = .next { s.advance dt with tbi := { (s.advance dt).tbi with rx := .idle } }

/-- R59, R62, R65, R95, R107: the listen timer's end brings the station to JOINED when the mains state is OK and every
coil has its first result, with a request for every held record in increasing ID as far as the slots take them, its first
report tick, its first pass and a tracking pass; otherwise it goes on listening, and joins
at the crossing that enters OK or at the close of the probe slot that brings the last first result. That
the first requests carry the targets of before the first pass is a DESIGN CHOICE (notes/assumptions/6.md), and that a
refused request counts as the last requested and starts no timer is DEDUCED (notes/assumptions/13.md). -/
def Obligations.ListenTimerJoins : Prop :=
  (∀ (dt : Nat) (s : State), s.inReset = false → s.tbi.link = .listen → (s.advance dt).tbi.listen = some 300 →
    ∃ t, exec (.listenTimerEnd dt) s = .next t ∧ t.ptk.labels = s.ptk.labels ∧ t.drv = s.drv ∧ t.bgu = s.bgu ∧
      if s.mtu.mains = .ok ∧ ∀ c, (s.prb.coils.get c).firstResult = true then
        State.Joins (s.advance dt) t
      else t = { s.advance dt with tbi := { (s.advance dt).tbi with listenEnded := true } }) ∧
  (∀ (i : Instr) (now : Nat) (s : State), s.Crosses i now → s.tbi.link = .listen → s.tbi.listenEnded = true →
    (∀ c, (s.prb.coils.get c).firstResult = true) →
    ∃ t, exec i s = .next t ∧ (t.tbi.link = .joined ↔ t.mtu.mains = .ok) ∧
      (t.mtu.mains = .ok → State.Joins (s.advance (now - s.clock)) t)) ∧
  ∀ (dt : Nat) (lower higher : ProbeReading) (f : Flight) (s : State), s.inReset = false →
    s.prb.inFlight = some f → f.fired = true → s.mtu.last + 1400 ≤ s.clock + dt →
    s.tbi.link = .listen → s.tbi.listenEnded = true →
    ∃ t, exec (.probeSlotClose dt lower higher) s = .next t ∧
      if s.mtu.mains = .ok ∧ ∀ c, (t.prb.coils.get c).firstResult = true then
        State.Joins (s.advance dt) t
      else t.tbi = (s.advance dt).tbi

/-- R61, R66, R70, R107, R128, R136, R160: 250 ms of silence, or of stalled transmission, bring ISOLATED: drive and every group end,
the claim is 0, the slots are emptied, and the change is a STATUS change; labels and registry stay. -/
def Obligations.SilenceAndStallIsolate : Prop :=
  ∀ (dt : Nat) (i : Instr) (s : State), s.inReset = false → s.tbi.link = .joined →
    (i = .silenceTimerEnd dt ∧ (s.advance dt).tbi.silence = 250 ∨
      i = .transmitStallTimerEnd dt ∧ (s.advance dt).tbi.stall = 250 ∧
        ¬ (s.tbi.statusQueued = false ∧ s.tbi.slots = [] ∧ s.tbi.tx = none)) →
    ∃ t, exec i s = .next t ∧ t.tbi.link = .isolated ∧ t.tbi.heardOther = false ∧ t.tbi.ownSent = false ∧
      t.DriveStopped ∧ State.EnergiesDiscarded s t ∧ t.drv.records = [] ∧ t.bgu.claim = 0 ∧
      (∀ x ∈ t.tbi.slots, x.queued = none) ∧ (∀ x, t.tbi.tx = some x → x.doomed = true) ∧
      (t.tbi.statusQueued = true ↔ s.tbi.spacing = none ∧ ∀ x, s.tbi.tx = some x → x.pan ≠ none) ∧
      (t.tbi.statusQueued = false → t.tbi.change = true) ∧
      t.ptk.labels = s.ptk.labels ∧ t.ptk.registry.map (·.id) = s.ptk.registry.map (·.id) ∧
      (∀ r ∈ t.ptk.registry, r.period = none ∧ r.spacing = none ∧ r.change = false ∧ r.refused = false) ∧
      t.svw = (s.advance dt).svw ∧ t.lau = { (s.advance dt).lau with groups := [] }

/-- R67, R70, R84, R112, R128: an isolated station that has heard another and sent a STATUS enters LISTEN, with no row and
no other station fresh, no HEARD record, no groups and no claim; its labels and the values of its entries stay. A frame
and the entry it causes may be taken in either order (notes/assumptions/5.md): a STATUS then stands or is discarded. The
entry and each station that was fresh give their own notices, so with one fresh station a further pass is due: that each
trigger of one command counts is DEDUCED (notes/assumptions/14.md), and so is that an allocation pass in progress is given
up (notes/assumptions/12.md). -/
def Obligations.HeardAndSentEntersListen : Prop :=
  (∀ (dt : Nat) (i : Instr) (s : State), s.tbi.link = .isolated →
    ((∃ env bs, i = .beacon dt env bs ∧ s.AcceptsPanel 4 env bs.toList ∧ s.tbi.ownSent = true) ∨
      (∃ env bs, i = .level dt env bs ∧ s.AcceptsPanel 1 env bs.toList ∧ s.tbi.ownSent = true) ∨
      (∃ env, i = .allOff dt env ∧ s.AcceptsPanel 0 env [] ∧ s.tbi.ownSent = true) ∨
      i = .transmitSuccess dt ∧ s.inReset = false ∧ s.tbi.heardOther = true ∧
        ∃ x, s.tbi.tx = some x ∧ x.pan = none) →
    ∃ t, exec i s = .next t ∧ t.tbi.link = .listen ∧ t.tbi.listen = some 0 ∧ t.tbi.listenEnded = false ∧
      t.tbi.report = none ∧ t.tbi.statusQueued = false ∧
      (∀ st, t.svw.fresh.get st = false ∧ t.svw.ages.get st = none ∧ t.svw.rows.get st = .reset) ∧
      t.svw.entries = s.svw.entries ∧ t.ptk.labels = s.ptk.labels ∧
      (∀ r ∈ t.ptk.registry, r.role ≠ .heard) ∧ t.lau.groups = [] ∧ t.lau.demand = 0 ∧ t.lau.pass = none ∧
      t.bgu.claim = 0 ∧ t.ptk.running = true ∧
      ((∃ st, st ≠ s.station ∧ s.svw.fresh.get st = true) → t.ptk.further = true)) ∧
  ∀ (dt : Nat) (i : Instr) (env : Envelope) (src : Fin 8) (s : State), s.EndsIsolation →
    ((∃ bs, i = .status dt env bs ∧ s.AcceptsFrom src 3 env bs.toList) ∨
      ∃ bs, i = .pan dt env bs ∧ s.AcceptsFrom src 2 env bs.toList) →
    ∃ t, exec i s = .next t ∧ t.tbi.link = .listen ∧ t.tbi.listen = some 0 ∧ t.tbi.report = none ∧
      (∀ st, st ≠ src → t.svw.fresh.get st = false) ∧ t.ptk.labels = s.ptk.labels ∧ t.lau.groups = [] ∧
      t.bgu.claim = 0 ∧ t.ptk.running = true ∧
      ((∃ st, st ≠ s.station ∧ s.svw.fresh.get st = true) → t.ptk.further = true) ∧
      (∀ bs, i = .pan dt env bs → t.svw.entries = s.svw.entries ∧ t.svw.fresh.get src = false ∧
        ∀ r ∈ t.ptk.registry, r.role = .heard → r.id = (decodePan bs.toList).id) ∧
      ∀ bs, i = .status dt env bs → t.svw.entries.get src = (decodeStatus bs.toList).coils ∧
        (t.svw.fresh.get src = true ∧ t.svw.rows.get src = rowOf (decodeStatus bs.toList) ∨
          t.svw.fresh.get src = false ∧ t.svw.rows.get src = .reset)

/-- R75 to R77, R81, R151: at an age of 350 ms a station's row and entries become stale together; its entries keep their
values and are read as CLEAR, unlabelled and not driving; the surface period and a tracking pass follow. The entries of the
surface period are the own limit and want and those of every fresh row that is neither in CONFLICT nor LOST, where both are
there; it is the smaller of their lowest limit and their highest want, kept in 853..3200, and 853 without an entry. -/
def Obligations.SilentStationsGoStale : Prop :=
  surfacePeriod [] = 853 ∧
  (∀ (es : List (Nat × Nat)) (l w : Nat), l ∈ es.map (·.1) → (∀ x ∈ es, l ≤ x.1) → w ∈ es.map (·.2) →
    (∀ x ∈ es, x.2 ≤ w) → surfacePeriod es = max 853 (min 3200 (min l w))) ∧
  (∀ (s : State) (l w : Nat), (l, w) ∈ s.periodEntries ↔ s.fqu.limit = some l ∧ s.fqu.want = some w ∨
    ∃ st, st ≠ s.station ∧ s.svw.fresh.get st = true ∧
      (s.svw.rows.get st).conflict = false ∧ (s.svw.rows.get st).mains = .ok ∧
      (s.svw.rows.get st).limit = some l ∧ (s.svw.rows.get st).want = some w) ∧
  ∀ (dt : Nat) (st : Fin 8) (s : State), s.inReset = false → st ≠ s.station → s.svw.fresh.get st = true →
    (s.advance dt).svw.ages.get st = some 350 →
    ∃ t, exec (.stationAgeExpiry dt st) s = .next t ∧ t.svw.fresh.get st = false ∧
      (∀ k, k ≠ st → t.svw.fresh.get k = s.svw.fresh.get k) ∧
      t.svw.entries = s.svw.entries ∧ t.svw.rows = s.svw.rows ∧
      (∀ j, ownerOf j = st →
        t.entry j = { q := 0, condition := .clear, band := .normal, label := 0, driving := false }) ∧
      t.fqu.s = surfacePeriod t.periodEntries ∧ t.ptk.running = true ∧
      t = { s.advance dt with
        svw := t.svw
        ptk := { (s.advance dt).ptk with running := true, further := t.ptk.further }
        fqu := { s.fqu with limit := t.fqu.limit, want := t.fqu.want, s := t.fqu.s } }

/-! ### Pans -/

/-- R87, R91, R93 to R99, R104, R105, R108, R125: a tracking pass that has started runs its stages whole, as one command (DESIGN CHOICE,
notes/assumptions/21.md): afterwards no withdrawn record is left, every label of an own coil stands on a covered coil, and
every record's W_p is its pan weight; the further-pass mark is spent. Stage 2 merges a settling pan into the lowest
settling ID below it that it touches, in rising order. Stage 1 strips coils that are uncovered, OBJECT or OPEN, or whose ID
is withdrawn, and removes the withdrawn records. Stage 3 leaves an ID on the own coils joined to its lowest entry. Stage 4 gives a
coil the candidate that most neighbours carry among those that may grow, with a SHARED record stored where it has none, and goes on until no coil takes one. Stage 6
gives each record with a footprint its anchor, box, W_p, holder and role, and starts or stops its timers; one without a
footprint is lifted, gone or HEARD. That the command carries samples, taken before stage 1, is a DESIGN CHOICE too
(notes/assumptions/4.md), and so are that stage 6 takes the records in rising ID (notes/assumptions/32.md) and that a pan
newly held loses the target of a pass in progress (notes/assumptions/33.md), and so is that a label that is a multiple of 16
other than 0 counts as an ID (notes/assumptions/36.md). -/
def Obligations.TrackingPassLeavesTheRegistryInStep : Prop :=
  (∀ (dt : Nat) (samples : Oct (List Sample)) (s : State), s.inReset = false → s.ptk.running = true → s.RegistryKept →
    ∃ t, exec (.trackingPass dt samples) s = .next t ∧ t.RegistryKept ∧ t.ptk.further = false ∧
      (∀ r ∈ t.ptk.registry, r.withdrawn = false ∧ r.wp = t.panWeight r.id) ∧
      (∀ r ∈ t.ptk.registry, r.role = .held → t.footprint r.id = [] → r.state = .lifted) ∧
      (∀ r ∈ t.ptk.registry, ∀ j, (t.footprint r.id).head? = some j → r.anchor = j ∧ r.holder = ownerOf j ∧
        (r.role = .held ↔ ownerOf j = s.station)) ∧
      t.svw = (s.advance dt).svw ∧ t.bgu = s.bgu ∧
      let u := ((s.advance dt).takeSamples samples).stage1.stage2
      t = ((u.stage3.1.sweeps u.stage3.2 9).stage5.stage6.stage7).endTracking) ∧
  (∀ s : State, s.RegistryKept →
    let t := s.stage1
    t.ptk.registry = s.ptk.registry.filter (fun r => !r.withdrawn) ∧
    ∀ c, t.ptk.labels.get c =
      if (s.prb.coils.get c).q = 0 ∨ (s.prb.coils.get c).condition = .object ∨ (s.prb.coils.get c).condition = .opened ∨
        ∃ r ∈ s.ptk.registry, r.withdrawn = true ∧ r.id = s.ptk.labels.get c then 0 else s.ptk.labels.get c) ∧
  (∀ s : State, s.stage2 = (s.ptk.registry.map (·.id)).foldl (fun t p => t.mergePan p) s ∧
    s.stage6 = (s.ptk.registry.map (·.id)).foldl (fun t p => t.updateRecord p) s) ∧
  (∀ (p m : Nat) (s : State), s.RegistryKept →
    (s.mergeTarget p = some m ↔ s.MergesInto p m ∧ ∀ k, s.MergesInto p k → m ≤ k)) ∧
  (∀ (p : Nat) (r : PanRecord) (s : State), s.record? p = some r →
    let t := s.mergePan p
    (∀ m, r.state = .settling → s.carries p = true → s.mergeTarget p = some m →
      (∀ c, t.ptk.labels.get c = if s.ptk.labels.get c = p then m else s.ptk.labels.get c) ∧
      (∀ q, q ≠ p → t.record? q = s.record? q) ∧
      (r.role = .held → t.record? p = none ∧ (s.tbi.link = .joined → s.tbi.slots.length < 8 →
        ∃ x ∈ t.tbi.slots, x.id = p ∧ x.queued.any fun c => c.code == .gone)) ∧
      (r.role = .shared → t.record? p = if r.age < 1000 then some { r with role := .heard } else none)) ∧
    (r.state ≠ .settling ∨ s.carries p = false ∨ s.mergeTarget p = none → t = s)) ∧
  (∀ (s : State) (p j : Nat), j ∈ s.joinedToLowest p ↔ s.JoinedToLowest p j) ∧
  (∀ s : State, (∀ c, s.ptk.labels.get c ≤ 127) →
    let t := s.stage3.1
    t.ptk.registry = s.ptk.registry ∧ t.svw = s.svw ∧
    (∀ c, s.JoinedToLowest (s.ptk.labels.get c) (s.ownIndex c) → t.ptk.labels.get c = s.ptk.labels.get c) ∧
    (∀ c, ¬ s.JoinedToLowest (s.ptk.labels.get c) (s.ownIndex c) → t.ptk.labels.get c = 0) ∧
    ∀ c p, (c, p) ∈ s.stage3.2 ↔ s.ptk.labels.get c = p ∧ p ≠ 0 ∧ t.ptk.labels.get c = 0) ∧
  (∀ (stripped : List (Fin 8 × Nat)) (c : Fin 8) (s : State),
    let t := s.propagate stripped c
    let may := s.ptk.labels.get c = 0 ∧ (s.ownEntry c).covered = true
    (¬ may ∨ (∀ p, ¬ s.MayTake stripped c p) → t = s) ∧
    (∀ p, may → s.MayTake stripped c p →
      (∀ q, s.MayTake stripped c q → q = p ∨ s.neighbours c q < s.neighbours c p ∨
        s.neighbours c q = s.neighbours c p ∧ p < q) →
      (∀ k, t.ptk.labels.get k = if k = c then p else s.ptk.labels.get k) ∧
      (∀ r, s.record? p = some r → t.ptk.registry = s.ptk.registry) ∧
      (s.record? p = none → ∃ i, i < 64 ∧ s.freshEntry i = true ∧ (s.entry i).label = p ∧
        (∀ j, j < i → ¬ (s.freshEntry j = true ∧ (s.entry j).label = p)) ∧
        t.record? p = some
          { id := p, role := .shared, holder := ownerOf i, state := .settling, level := 0, anchor := i, box := none
            wp := 0, ws := 0, settle := none, stable := none, lifted := none, age := 0, withdrawn := false
            period := none, spacing := none, change := false, refused := false, requested := none, tp := none
            tpNext := none }))) ∧
  (∀ (stripped : List (Fin 8 × Nat)) (c : Fin 8) (s : State),
    (s.sweeps stripped 9).propagate stripped c = s.sweeps stripped 9) ∧
  (∀ (s : State) (p : Nat),
    let on := fun j => j < 64 ∧ (s.heldEntry j).label = p
    (s.boxOf p = none ↔ ∀ j, ¬ on j) ∧
    ∀ b, s.boxOf p = some b →
      (∀ j, on j → b.colMin ≤ j % 16 ∧ j % 16 ≤ b.colMax ∧ b.rowMin ≤ j / 16 ∧ j / 16 ≤ b.rowMax) ∧
      (∃ j, on j ∧ j % 16 = b.colMin) ∧ (∃ j, on j ∧ j % 16 = b.colMax) ∧
      (∃ j, on j ∧ j / 16 = b.rowMin) ∧ ∃ j, on j ∧ j / 16 = b.rowMax) ∧
  (∀ (p i : Nat) (r : PanRecord) (s : State), s.record? p = some r → (s.footprint p).head? = some i →
    let t := s.updateRecord p
    let base : PanRecord := { r with anchor := i, box := s.boxOf p, wp := s.panWeight p, holder := ownerOf i }
    let idle := fun (x : PanRecord) =>
      { x with settle := none, stable := none, lifted := none, period := none, spacing := none, change := false
               refused := false, requested := none }
    (∀ q, q ≠ p → t.record? q = s.record? q) ∧ t.ptk.labels = s.ptk.labels ∧ t.tbi = s.tbi ∧
    (ownerOf i = s.station → r.role = .held → t.record? p = some { base with
      stable := if (r.state = .idle ∨ r.state = .heating) ∧ s.panWeight p ≠ r.wp then some 0 else r.stable }) ∧
    (ownerOf i = s.station → r.role ≠ .held → t.record? p = some { idle base with
      role := .held, tp := none, tpNext := none
      state := if r.state = .lifted then (if r.level = 0 then .idle else .heating) else r.state
      settle := if r.state = .settling then some 0 else none
      stable := if r.state = .settling then none else some 0 }) ∧
    (ownerOf i ≠ s.station →
      let kept := if r.role = .held then idle base else base
      (s.carries p = true → t.record? p = some { kept with role := .shared }) ∧
      (s.carries p = false → t.record? p = if r.age < 1000 then some { kept with role := .heard } else none))) ∧
  ∀ (p : Nat) (r : PanRecord) (s : State), s.record? p = some r → s.footprint p = [] →
    let t := s.updateRecord p
    (∀ q, q ≠ p → t.record? q = s.record? q) ∧ t.ptk.labels = s.ptk.labels ∧
    (r.role = .held → r.state = .settling → t.record? p = none ∧ t.ptk.running = true ∧
      (s.tbi.link = .joined → s.tbi.slots.length < 8 →
        ∃ x ∈ t.tbi.slots, x.id = p ∧ x.queued.any fun c => c.code == .gone)) ∧
    (r.role = .held → r.state = .lifted → t.record? p = some { r with wp := 0 }) ∧
    (r.role = .held → r.state = .idle ∨ r.state = .heating → t.ptk.running = true ∧
      t.record? p = some { r with wp := 0, state := .lifted, lifted := some 0, stable := none } ∧
      (r.state = .heating → ∀ g ∈ t.lau.groups, g.id = p → g.target = 0 ∧ g.scaled = 0)) ∧
    (r.role = .shared → t.record? p = if r.age < 1000 then some { r with wp := 0, role := .heard } else none) ∧
    (r.role = .heard → t.record? p = some { r with wp := 0 })

/-- R80, R86, R87, R89, R101 to R103: in JOINED the own coils are considered in rising order, and the station that owns the lowest coil of a cluster of weight 3 or more
resumes the lifted pan within reach, and creates a new one where there is none. The new pan takes the first ID of the
station, stepping on from the last one with 15 wrapping to 1, that no record holds; it is HELD and SETTLING with level 0,
and the cluster's own coils, and no others, take the ID. With all fifteen held, or no room in the registry, the creation
is deferred; whether the sequence then moves in the second case is open (notes/assumptions/5.md). That an entry whose label
is a multiple of 16 other than 0 counts as labelled is a DESIGN CHOICE (notes/assumptions/36.md). -/
def Obligations.NewPanTakesTheCluster : Prop :=
  (∀ s : State, s.tbi.link ≠ .joined → s.stage5 = s) ∧
  (∀ s : State, s.tbi.link = .joined →
    s.stage5 = ([0, 1, 2, 3, 4, 5, 6, 7] : List (Fin 8)).foldl (fun t c => t.considerCluster c) s) ∧
  (∀ (s : State) (i j : Nat), s.unlabelledCovered i = true →
    (j ∈ s.cluster i ↔ Relation.ReflTransGen (fun a b => adjacent a b = true ∧ b < 64 ∧ s.unlabelledCovered b = true) i j)) ∧
  (∀ (c : Fin 8) (s : State),
    let i := s.ownIndex c
    let xs := s.cluster i
    let considered := s.unlabelledCovered i = true ∧ (∀ j ∈ xs, i ≤ j) ∧ 3 ≤ (xs.map fun j => (s.entry j).q).sum
    (¬ considered → s.considerCluster c = s) ∧
    (considered → s.resumable i = none → s.considerCluster c = s.createPan xs i) ∧
    (∀ r, (s.ptk.registry.map (·.id)).Pairwise (· < ·) → considered → s.resumable i = some r →
      let t := s.considerCluster c
      (∀ k, t.ptk.labels.get k = if s.ownIndex k ∈ xs then r.id else s.ptk.labels.get k) ∧
      t.record? r.id = some { r with
        state := if r.level = 0 then .idle else .heating
        lifted := none
        stable := if r.role = .held then some 0 else r.stable } ∧
      t.ptk.running = true ∧ ∀ q, q ≠ r.id → t.record? q = s.record? q)) ∧
  ∀ (cluster : List Nat) (j : Nat) (s : State),
    let t := s.createPan cluster j
    let value := fun k => (s.ptk.seq + k) % 15 + 1
    let taken := fun v => ∃ r ∈ s.ptk.registry, r.id = 16 * s.station.val + v
    let leaves := fun (x : PanRecord) => x ∈ s.ptk.registry ∧ x.role = .heard ∧ ∀ k, s.ptk.labels.get k ≠ x.id
    ((∀ k, k < 15 → taken (value k)) → t = s) ∧
    ∀ k, k < 15 → ¬ taken (value k) → (∀ l, l < k → taken (value l)) →
      let p := 16 * s.station.val + value k
      let created := t.ptk.seq = value k ∧ t.ptk.running = true ∧
        (∀ c, t.ptk.labels.get c = if s.ownIndex c ∈ cluster then p else s.ptk.labels.get c) ∧
        t.record? p = some
          { id := p, role := .held, holder := s.station, state := .settling, level := 0, anchor := j, box := none
            wp := 0, ws := 0, settle := some 0, stable := none, lifted := none, age := 0, withdrawn := false
            period := none, spacing := none, change := false, refused := false, requested := none, tp := none
            tpNext := none }
      (s.ptk.registry.length < 16 → created ∧ ∀ q, q ≠ p → t.record? q = s.record? q) ∧
      (∀ x, 16 ≤ s.ptk.registry.length → leaves x →
        (∀ y, leaves y → y = x ∨ y.age < x.age ∨ y.age = x.age ∧ y.id < x.id) →
        created ∧ t.record? x.id = none ∧ ∀ q, q ≠ p → q ≠ x.id → t.record? q = s.record? q) ∧
      (16 ≤ s.ptk.registry.length → (∀ x, ¬ leaves x) → (t.ptk.seq = value k ∨ t.ptk.seq = s.ptk.seq) ∧
        t = { s with free := s.free + 1, ptk := { s.ptk with seq := t.ptk.seq } })

/-- R91, R92, R94: the settle timer's end brings a pan to IDLE or HEATING with Ws at W_p and the stable timer started;
the stable timer's end takes W_p into Ws again. -/
def Obligations.SettleAndStableTimersTakeTheWeight : Prop :=
  (∀ (dt p : Nat) (r : PanRecord) (s : State), s.inReset = false → (s.advance dt).record? p = some r →
    r.role = .held → r.state = .settling → r.settle = some 1000 →
    ∃ t r', exec (.settleTimerEnd dt p) s = .next t ∧ t.record? p = some r' ∧
      r'.state = (if r.level = 0 then .idle else .heating) ∧ r'.ws = r.wp ∧ r'.wp = r.wp ∧ r'.settle = none ∧
      r'.stable = some 0 ∧ r'.level = r.level ∧ r'.anchor = r.anchor ∧ r'.role = .held ∧ t.ptk.running = true ∧
      t.ptk.labels = s.ptk.labels ∧ t.drv = s.drv ∧ t.bgu = s.bgu) ∧
  ∀ (dt p : Nat) (r : PanRecord) (s : State), s.inReset = false → (s.advance dt).record? p = some r →
    r.role = .held → r.state = .idle ∨ r.state = .heating → r.stable = some 1000 →
    ∃ t r', exec (.stableTimerEnd dt p) s = .next t ∧ t.record? p = some r' ∧ r'.ws = r.wp ∧ r'.wp = r.wp ∧
      r'.stable = none ∧ r'.state = r.state ∧ r'.level = r.level ∧ r'.role = .held ∧
      t.ptk.labels = s.ptk.labels ∧ t.drv = s.drv ∧ t.bgu = s.bgu

/-- R90, R93, R95, R108, R125: the lifted timer's end announces a pan GONE and removes its record; a HEARD record unheard
for 1,000 ms is removed; either starts a tracking pass and forces the pan's group to 0, and labels stay. -/
def Obligations.ExpiredRecordsAreRemoved : Prop :=
  ∀ (dt p : Nat) (r : PanRecord) (i : Instr) (s : State), s.inReset = false → (s.advance dt).record? p = some r →
    (i = .liftedTimerEnd dt p ∧ r.role = .held ∧ r.state = .lifted ∧ r.lifted = some 6000 ∨
      i = .lastHeardAgeExpiry dt p ∧ r.role = .heard ∧ r.age = 1000) →
    ∃ t, exec i s = .next t ∧ t.record? p = none ∧ t.ptk.running = true ∧
      (∀ q, q ≠ p → t.record? q = (s.advance dt).record? q) ∧
      (∀ g ∈ t.lau.groups, g.id = p → g.target = 0 ∧ g.scaled = 0) ∧
      t.ptk.labels = s.ptk.labels ∧
      (r.role = .held → s.tbi.link = .joined → s.tbi.slots.length < 8 →
        ∃ x ∈ t.tbi.slots, x.id = p ∧ x.queued.any fun c => c.code == .gone && c.tp == 0 && c.remaining == 0)

/-- R58, R106 to R108: the PAN period timer's end makes a request for a held pan, and so does the spacing timer's end when
its change mark is set; a request taken starts both timers and queues the content the record gives, with what is left of the
6,000 ms of the lifted timer in units of 100 ms rounded up, and 0 outside LIFTED. A PAN change makes a
request at once, or sets the change mark while the spacing timer runs, and stage 7 of a tracking pass takes one for every
held record that differs from what was last requested for it, in rising ID (DESIGN CHOICE, notes/assumptions/32.md). -/
def Obligations.PanTimersMakeRequests : Prop :=
  (∀ s : State, s.stage7 =
    ((s.ptk.registry.filter fun r => decide (r.role = .held ∧ r.requested ≠ some
      { state := r.state, level := r.level, anchor := r.anchor, box := r.box, wp := r.wp, ws := r.ws })).map (·.id)).foldl
      (fun t p => t.panChange p) s) ∧
  (∀ (p : Nat) (r : PanRecord) (s : State), s.record? p = some r →
    let t := s.panChange p
    (r.role ≠ .held ∨ s.tbi.link ≠ .joined → t = s) ∧
    (r.role = .held → s.tbi.link = .joined →
      (∀ q, q ≠ p → t.record? q = s.record? q) ∧
      (r.spacing ≠ none → t.record? p = some { r with change := true } ∧ t.tbi = s.tbi) ∧
      (r.spacing = none → s.tbi.slots.length < 8 ∨ (∃ x ∈ s.tbi.slots, x.id = p) →
        t.record? p = some { r with
          period := some 0, spacing := some 0, refused := false
          requested := some
            { state := r.state, level := r.level, anchor := r.anchor, box := r.box, wp := r.wp, ws := r.ws } } ∧
        ∃ x ∈ t.tbi.slots, x.id = p ∧ x.queued = some r.content))) ∧
  (∀ r : PanRecord, r.content =
    { id := r.id, code := .live r.state, level := r.level, anchor := r.anchor, box := r.box
      wp := min 255 r.wp, ws := min 255 r.ws, tp := r.tp.getD 0
      remaining := if r.state = .lifted then (6000 - r.lifted.getD 6000 + 99) / 100 else 0 }) ∧
  ∀ (dt p : Nat) (r : PanRecord) (i : Instr) (s : State), s.inReset = false → (s.advance dt).record? p = some r →
    r.role = .held →
    (i = .panPeriodTimerEnd dt p ∧ r.period = some 250 ∨ i = .panSpacingTimerEnd dt p ∧ r.spacing = some 20) →
    ∃ t r', exec i s = .next t ∧ t.record? p = some r' ∧ r'.state = r.state ∧ r'.level = r.level ∧
      (∀ q, q ≠ p → t.record? q = (s.advance dt).record? q) ∧
      t.ptk.labels = s.ptk.labels ∧ t.drv = s.drv ∧ t.bgu = s.bgu ∧
      (i = .panSpacingTimerEnd dt p → r.change = false →
        r' = { r with spacing := none } ∧ t.tbi = (s.advance dt).tbi) ∧
      (i = .panPeriodTimerEnd dt p ∨ r.change = true → s.tbi.link = .joined →
        s.tbi.slots.length < 8 ∨ (∃ x ∈ s.tbi.slots, x.id = p) →
        r'.period = some 0 ∧ r'.spacing = some 0 ∧ r'.refused = false ∧
        ∃ x ∈ t.tbi.slots, x.id = p ∧ x.queued = some
          { id := p, code := .live r.state, level := r.level, anchor := r.anchor, box := r.box
            wp := min 255 r.wp, ws := min 255 r.ws, tp := r.tp.getD 0
            remaining := if r.state = .lifted then (6000 - r.lifted.getD 6000 + 99) / 100 else 0 }) ∧
      (i = .panPeriodTimerEnd dt p → s.tbi.link = .joined → 8 ≤ s.tbi.slots.length →
        (∀ x ∈ s.tbi.slots, x.id ≠ p) → r'.refused = true ∧ t.tbi.refused = true ∧ t.tbi.slots = s.tbi.slots)

/-! ### Power, protection and stops -/

/-- R120 to R122, R125, R126, R156: at the end of an allocation pass the new demand, claim and pan targets replace the
old together; each group stands with its own coils that are still drivable under its label, with a target only where its
pan may heat, and the drive unit holds a record for every group with a scaled target above 0. That ALL-OFF, claim and
members are met as they stand at the end of the pass is DEDUCED (notes/assumptions/12.md). R126, R142, R158: a coil that
is no longer drivable under its label leaves its groups and records at once, its gates low; one that becomes drivable
joins the running group of its label and is handed to the drive unit as a new member, and one that was drivable for that pan
before joins none; one whose label changes leaves the one pan's group and joins the other's; a change of master holds its
offset pending. R63, R87, R147: a change of label is a STATUS change and leaves the coil's UNFIT mark off. The unit of the energy of a coil that
leaves is a DESIGN CHOICE (notes/assumptions/4.md), and so is that it adds to what the coil already holds of the half-cycle
(notes/assumptions/23.md). -/
def Obligations.PassEndHandsOnTheGroups : Prop :=
  (∀ (dt : Nat) (samples : Oct (List Sample)) (p : Pass) (s : State), s.inReset = false → s.lau.pass = some p →
    (p.groups.map (·.id)).Nodup →
    ∃ t, exec (.allocationPassEnd dt samples) s = .next t ∧ t.lau.pass = none ∧ t.lau.demand = p.demand ∧
      t.bgu.claim = (if s.tbi.link = .joined ∧ s.prt.state = .armed then p.claim else 0) ∧
      t.ptk = { s.ptk with registry := (s.advance dt).ptk.registry.map fun r =>
        { r with tp := r.tpNext, tpNext := none } } ∧
      (∀ g ∈ t.lau.groups, (∃ c, g.members.get c = true) ∧
        ∃ g₀ ∈ p.groups, g₀.id = g.id ∧
          (∀ c, g.members.get c = true ↔
            g₀.members.get c = true ∧ s.drivable c = true ∧ s.ptk.labels.get c = g.id) ∧
          let may := s.lau.present = true ∧ s.lau.enable = true ∧
            ∃ r, s.record? g.id = some r ∧ r.state = .heating ∧ ¬ (p.allOff = true ∧ r.level = 0)
          g.target = (if may then g₀.target else 0) ∧
          g.scaled = (if may ∧ s.tbi.link = .joined ∧ s.prt.state = .armed then g₀.scaled else 0)) ∧
      (∀ g₀ ∈ p.groups, ∀ c, g₀.members.get c = true → s.drivable c = true → s.ptk.labels.get c = g₀.id →
        ∃ g ∈ t.lau.groups, g.id = g₀.id) ∧
      (∀ g ∈ t.lau.groups, 0 < g.scaled → ∃ r ∈ t.drv.records, r.id = g.id ∧ r.state ≠ .ending ∧
        r.target = g.scaled ∧ ∀ c, r.members.get c = g.members.get c) ∧
      (∀ r ∈ t.drv.records, r.state ≠ .ending → ∃ g ∈ t.lau.groups, g.id = r.id ∧ 0 < g.scaled) ∧
      t.mtu = s.mtu) ∧
  (∀ (was : Option Nat) (c : Fin 8) (s : State),
    let t := s.followDrivability was c
    let p := s.ptk.labels.get c
    (∀ g ∈ t.lau.groups, g.members.get c = true → s.drivable c = true ∧ g.id = p) ∧
    (∀ r ∈ t.drv.records, r.members.get c = true → s.drivable c = true ∧ r.id = p) ∧
    (s.drivable c = true → was ≠ some p → ∀ g ∈ t.lau.groups, g.id = p → 0 < g.scaled → g.members.get c = true) ∧
    (s.drivable c = true → was ≠ some p → State.HandedToDrive s t c p) ∧
    (was = some p →
      (∀ g ∈ t.lau.groups, g.members.get c = true → ∃ g₀ ∈ s.lau.groups, g₀.id = g.id ∧ g₀.members.get c = true) ∧
      ∀ r ∈ t.drv.records, r.members.get c = true → ∃ r₀ ∈ s.drv.records, r₀.id = r.id ∧ r₀.members.get c = true)) ∧
  (∀ (c : Fin 8) (l : Nat) (s : State), s.ptk.labels.get c ≠ l →
    let t := s.setLabel c l
    (∀ k, t.ptk.labels.get k = if k = c then l else s.ptk.labels.get k) ∧
    (∀ k, t.prb.coils.get k = if k = c then { s.prb.coils.get c with unfit := false } else s.prb.coils.get k) ∧
    (s.tbi.link = .joined ∨ s.tbi.link = .isolated → t.tbi.statusQueued = true ∨ t.tbi.change = true) ∧
    (t.drivable c = true → State.HandedToDrive s t c l) ∧
    (∀ g ∈ t.lau.groups, g.members.get c = true → t.drivable c = true ∧ g.id = l) ∧
    (t.drivable c = true → ∀ g ∈ t.lau.groups, g.id = l → 0 < g.scaled → g.members.get c = true)) ∧
  (∀ (c : Fin 8) (p : Nat) (s : State),
    let t := s.joinGroup c p
    t.drv.records = s.drv.records.map (fun r =>
      if r.id = p ∧ r.state ≠ .ending then
        let members := r.members.set c true
        { r with
          members := members
          offsetPending := if r.state = .started ∧ lowestMember members ≠ lowestMember r.members
            then some ((5 * s.station.val + 3 * (lowestMember members).val) % 16) else r.offsetPending }
      else r) ∧
    ((∃ r ∈ s.drv.records, r.id = p ∧ r.state = .started) → (t.drv.coils.get c).driving = true ∧
      ∃ x, t.fqu.members.get c = some x ∧ x.l = startingLimit (s.prb.coils.get c).tres ∧ x.hard = 0) ∧
    ((∀ r ∈ s.drv.records, r.id = p → r.state ≠ .started) → t.drv.coils = s.drv.coils ∧ t.fqu = s.fqu)) ∧
  ∀ (c : Fin 8) (p : Nat) (s : State),
    let t := s.leaveGroup c p
    let d := s.drv.coils.get c
    let mj := d.acc / 1024000000
    (∀ r ∈ t.drv.records, r.id = p → r.members.get c = false) ∧
    (∀ r ∈ s.drv.records, r.id = p → r.members.get c = true → (∃ k, k ≠ c ∧ r.members.get k = true) →
      ∃ r' ∈ t.drv.records, r'.id = p ∧ r'.state = r.state ∧ r'.n = r.n ∧ r'.offset = r.offset ∧ r'.target = r.target ∧
        r'.members = r.members.set c false ∧ r'.sum = (if r.state = .waiting then r.sum else r.sum + mj) ∧
        r'.offsetPending =
          if r.state ≠ .waiting ∧ lowestMember r'.members ≠ lowestMember r.members
          then some ((5 * s.station.val + 3 * (lowestMember r'.members).val) % 16) else r.offsetPending) ∧
    (∀ r ∈ t.drv.records, ∃ k, r.members.get k = true) ∧
    ((∃ r ∈ s.drv.records, r.id = p ∧ r.members.get c = true ∧ r.state ≠ .waiting) →
      t.fqu.members.get c = none ∧ t.drv.coils.get c =
        { d with gates := none, inPeriod := false, tracked := false, acc := 0, energy := d.energy + mj
                 driving := false })

/-- R132 to R135: what the budget review makes of budget b, own claim c, own demand q and the claims and demands of the
fresh same-supply peers: it keeps to demand and budget, takes its share of an overdraft, yields toward the fair share
to a starved peer, and otherwise raises by at most 200 W and the headroom. -/
def Obligations.ReviewSharesTheBudget : Prop :=
  ∀ (b c q : Nat) (peers : List (Nat × Nat)), c ≤ b →
    let drawn := c + (peers.map (·.1)).sum
    let demanding := (if 0 < q then 1 else 0) + (peers.filter fun p => 0 < p.2).length
    let drawing := (if 0 < c then 1 else 0) + (peers.filter fun p => 0 < p.1).length
    let starved := ∃ p ∈ peers, p.1 < p.2
    review b c q peers ≤ q ∧ review b c q peers ≤ b ∧ review b c q peers ≤ c + 200 ∧
    (drawn ≤ b → review b c q peers + (peers.map (·.1)).sum ≤ b) ∧
    (b < drawn → review b c q peers = min q (c - (drawn - b + drawing - 1) / drawing)) ∧
    (drawn ≤ b → starved → b / demanding < c → review b c q peers = min q (max (b / demanding) (c - 200))) ∧
    (drawn ≤ b → ¬ (starved ∧ b / demanding < c) → review b c q peers = min q (c + min 200 (b - drawn)))

/-- R30, R63, R136, R170, R171: the trip input's becoming active in ARMED is a trip: TRIPPED, or LOCKED within 30 s of
the last one, a STATUS change; drive ends, the claim is 0 and a probe in flight is discarded. In another state only the input is held
active. Its becoming inactive releases the gates and changes nothing else. R172: at the hold timer's end in TRIPPED an
active input restarts the hold and an inactive one brings ARMED, a STATUS change. -/
def Obligations.TripStopsTheStation : Prop :=
  (∀ (dt : Nat) (s : State), s.inReset = false → s.prt.tripInput = false →
    ∃ t, exec (.trip dt) s = .next t ∧ t.prt.tripInput = true ∧ (∀ c k, t.gateOutput c k = .bothLow) ∧
      (s.prt.state ≠ .armed →
        t = { s.advance dt with prt := { (s.advance dt).prt with tripInput := true } }) ∧
      (s.prt.state = .armed →
        t.prt.state = (if ∃ x, (s.advance dt).prt.sinceTrip = some x ∧ x < 30000 then .locked else .tripped) ∧
        t.prt.sinceTrip = some 0 ∧ (t.prt.hold = if t.prt.state = .tripped then some 0 else none) ∧
        t.DriveStopped ∧ State.EnergiesDiscarded s t ∧ t.drv.records = [] ∧ t.bgu.claim = 0 ∧ (∀ g ∈ t.lau.groups, g.scaled = 0) ∧
        t.prb.inFlight = none ∧ t.prb.coils = s.prb.coils ∧ t.tbi.link = s.tbi.link ∧
        t.ptk = (s.advance dt).ptk ∧ t.lau.demand = s.lau.demand ∧
        (s.tbi.link = .joined ∨ s.tbi.link = .isolated → t.tbi.statusQueued = true ∨ t.tbi.change = true))) ∧
  (∀ (dt : Nat) (s : State), s.inReset = false →
    exec (.tripInputInactive dt) s =
      .next { s.advance dt with prt := { (s.advance dt).prt with tripInput := false } }) ∧
  ∀ (dt : Nat) (s : State), s.inReset = false → s.prt.state = .tripped → (s.advance dt).prt.hold = some 2000 →
    ∃ t, exec (.holdTimerEnd dt) s = .next t ∧
      (s.prt.tripInput = true → t = { s.advance dt with prt := { (s.advance dt).prt with hold := some 0 } }) ∧
      (s.prt.tripInput = false →
        t = { s.advance dt with
          prt := { (s.advance dt).prt with state := .armed, hold := none }
          tbi := { (s.advance dt).tbi with statusQueued := t.tbi.statusQueued, change := t.tbi.change } } ∧
        (s.tbi.link = .joined ∨ s.tbi.link = .isolated → t.tbi.statusQueued = true ∨ t.tbi.change = true))

/-- R19, R20, R30, R63, R160, R173: a gate-supply fall, and the third synthesized crossing in a row, which brings OK to LOST,
stop drive at once and discard a probe in flight; the waiting and started groups wait with their targets, and claim and
targets stay. A rise sets the flag again. The loss and each change of the flag are STATUS changes, in JOINED and in ISOLATED. -/
def Obligations.SupplyAndMainsLossStopDrive : Prop :=
  (∀ (dt : Nat) (s : State), s.inReset = false → s.prt.gateGood = true →
    ∃ t, exec (.gateSupplyFall dt) s = .next t ∧ t.prt = { (s.advance dt).prt with gateGood := false } ∧
      t.DriveStopped ∧ State.EnergiesDiscarded s t ∧ t.prb.inFlight = none ∧ t.prb.coils = s.prb.coils ∧
      t.bgu = s.bgu ∧
      t.lau = (s.advance dt).lau ∧ t.ptk = (s.advance dt).ptk ∧
      t.drv.records.map (fun r => (r.id, r.members, r.target)) =
        (s.drv.records.filter fun r => r.state ≠ .ending).map (fun r => (r.id, r.members, r.target)) ∧
      (s.tbi.link = .joined ∨ s.tbi.link = .isolated → t.tbi.statusQueued = true ∨ t.tbi.change = true)) ∧
  (∀ (dt : Nat) (s : State), s.inReset = false → s.prt.gateGood = false →
    ∃ t, exec (.gateSupplyRise dt) s = .next t ∧
      t = { s.advance dt with
        prt := { (s.advance dt).prt with gateGood := true }
        tbi := { (s.advance dt).tbi with statusQueued := t.tbi.statusQueued, change := t.tbi.change } } ∧
      (s.tbi.link = .joined ∨ s.tbi.link = .isolated → t.tbi.statusQueued = true ∨ t.tbi.change = true)) ∧
  ∀ (dt : Nat) (s : State), s.inReset = false → s.mtu.mains = .ok → 2 ≤ s.mtu.synthRun →
    s.mtu.last + 5 * s.mtu.h / 4 ≤ s.clock + dt →
    ∃ t, exec (.synthesisDeadline dt) s = .next t ∧ t.mtu.mains = .lost ∧ t.DriveStopped ∧ t.prb.inFlight = none ∧
      (∀ c, (t.drv.coils.get c).acc = 0 ∧ (t.drv.coils.get c).energy = 0) ∧
      t.bgu = s.bgu ∧ t.lau = (s.advance dt).lau ∧
      (s.tbi.link = .joined ∨ s.tbi.link = .isolated → t.tbi.statusQueued = true ∨ t.tbi.change = true) ∧
      t.drv.records.map (fun r => (r.id, r.members, r.target)) =
        (s.drv.records.filter fun r => r.state ≠ .ending).map (fun r => (r.id, r.members, r.target))

/-! ### Distance and frames -/

/-- R4: the Chebyshev distance, its values, and the pan tracker's use of it (R102): a record is within reach of a coil when
it is LIFTED, not withdrawn and its anchor at a distance of at most 2, and of those the nearest is resumed, ties to the
lower ID. -/
def Obligations.ChebyshevDistance : Prop :=
  (∀ i j, chebyshev i j =
    max (((i % 16 : Nat) : Int) - ((j % 16 : Nat) : Int)).natAbs (((i / 16 : Nat) : Int) - ((j / 16 : Nat) : Int)).natAbs) ∧
  (∀ i, chebyshev i i = 0) ∧
  (∀ i j, i < 64 → j < 64 → chebyshev i j ≤ 15) ∧ chebyshev 0 15 = 15 ∧
  (∀ i j, adjacent i j = true → chebyshev i j = 1) ∧
  (∀ i j, gap (i % 16) (j % 16) = 1 → gap (i / 16) (j / 16) = 1 → chebyshev i j = 1) ∧
  (∀ i r, PanRecord.inReach i r = true ↔ r.state = .lifted ∧ r.withdrawn = false ∧ chebyshev r.anchor i ≤ 2) ∧
  (∀ (s : State) (i : Nat), s.resumable i = none ↔ ∀ r ∈ s.ptk.registry, PanRecord.inReach i r = false) ∧
  ∀ (s : State) (i : Nat) (r : PanRecord), (s.ptk.registry.map (·.id)).Pairwise (· < ·) →
    (s.resumable i = some r ↔ r ∈ s.ptk.registry ∧ PanRecord.inReach i r = true ∧
      ∀ x ∈ s.ptk.registry, PanRecord.inReach i x = true → x = r ∨ chebyshev r.anchor i < chebyshev x.anchor i ∨
        chebyshev r.anchor i = chebyshev x.anchor i ∧ r.id < x.id)

/-- R56, R178, R179, Tables 12-3 to 12-5, 4-3: a PAN content and a STATUS content that fit their frames are read back from
the payload they are written to, with every field. Each field stands at the bits of the tables, unused bits are sent as 0,
and a received payload of any bytes is taken field by field with the clamps of Table 4-3. Below, `field bs k hi lo` is bits
hi..lo of byte k. That the box fields are sent as 0 without a box is a DESIGN CHOICE (notes/assumptions/22.md). -/
def Obligations.PayloadsReadBack : Prop :=
  let field := fun (bs : List Byte) (k hi lo : Nat) => (bs.getD k 0).toNat / 2 ^ lo % 2 ^ (hi + 1 - lo)
  let panCodes : List PanCode := [.live .settling, .live .idle, .live .heating, .live .lifted, .gone]
  let conditions : List Condition := [.clear, .covered, .object, .opened, .unfit]
  let bands : List Band := [.normal, .warm, .hot, .sensor]
  let protections : List Protection := [.armed, .tripped, .locked]
  let period := fun v => if v = 0 then none else some (max 853 (min 3200 v))
  (∀ bs : Vector Byte 10,
    let f := field bs.toList
    decodePan bs.toList =
      { id := f 0 6 0, code := panCodes.getD (f 1 7 4) (.live .idle), level := min 14 (f 1 3 0), anchor := f 2 5 0
        box := if f 2 7 7 = 1 then
            some { colMin := f 3 7 4, colMax := f 3 3 0, rowMin := f 4 3 2, rowMax := f 4 1 0 } else none
        wp := f 5 7 0, ws := f 6 7 0, tp := 256 * f 7 3 0 + f 8 7 0, remaining := min 60 (f 9 7 0) }) ∧
  (∀ c : PanContent, c.Legal →
    let f := field (encodePan c)
    f 0 7 0 = c.id ∧ panCodes[f 1 7 4]? = some c.code ∧ f 1 3 0 = c.level ∧ (f 2 7 7 = 1 ↔ c.box.isSome = true) ∧
      f 2 6 6 = 0 ∧ f 2 5 0 = c.anchor ∧ f 4 7 4 = 0 ∧ f 5 7 0 = c.wp ∧ f 6 7 0 = c.ws ∧ f 7 7 4 = 0 ∧
      256 * f 7 3 0 + f 8 7 0 = c.tp ∧ f 9 7 0 = c.remaining ∧
      (∀ b, c.box = some b → f 3 7 4 = b.colMin ∧ f 3 3 0 = b.colMax ∧ f 4 3 2 = b.rowMin ∧ f 4 1 0 = b.rowMax) ∧
      (c.box = none → f 3 7 0 = 0 ∧ f 4 7 0 = 0)) ∧
  (∀ bs : Vector Byte 35,
    let f := field bs.toList
    let c := decodeStatus bs.toList
    c.seq = f 0 7 0 ∧ (c.conflict = true ↔ f 1 7 7 = 1) ∧ c.protection = protections.getD (f 1 6 5) .locked ∧
      (c.gateGood = true ↔ f 1 4 4 = 0) ∧ (c.mains = .lost ↔ f 1 3 3 = 1) ∧ (c.quiet = true ↔ f 1 2 2 = 1) ∧
      (c.cause = .pin ↔ f 1 1 1 = 1) ∧ (c.supply = .b ↔ f 1 0 0 = 1) ∧ c.budget = f 2 7 6 ∧
      c.applied = max 853 (min 3200 (256 * f 2 3 0 + f 3 7 0)) ∧
      c.claim = 16 * f 4 7 0 + f 5 7 4 ∧ c.demand = 256 * f 5 3 0 + f 6 7 0 ∧
      c.limit = period (16 * f 7 7 0 + f 8 7 4) ∧ c.want = period (256 * f 8 3 0 + f 9 7 0) ∧ c.discards = f 10 7 0 ∧
      ∀ k : Fin 8, c.coils.get k =
        { q := min 4 (f (11 + 3 * k.val) 7 5), condition := conditions.getD (f (11 + 3 * k.val) 4 2) .object
          driving := f (11 + 3 * k.val) 1 1 == 1, band := bands.getD (f (12 + 3 * k.val) 2 0) .sensor
          label := if f (13 + 3 * k.val) 7 7 = 1 then 0 else f (13 + 3 * k.val) 6 0 }) ∧
  (∀ c : StatusContent, c.Legal →
    let f := field (encodeStatus c)
    f 0 7 0 = c.seq ∧ (f 1 7 7 = 1 ↔ c.conflict = true) ∧ protections[f 1 6 5]? = some c.protection ∧
      (f 1 4 4 = 0 ↔ c.gateGood = true) ∧ (f 1 3 3 = 1 ↔ c.mains = .lost) ∧ (f 1 2 2 = 1 ↔ c.quiet = true) ∧
      (f 1 1 1 = 1 ↔ c.cause = .pin) ∧ (f 1 0 0 = 1 ↔ c.supply = .b) ∧ f 2 7 6 = c.budget ∧ f 2 5 4 = 0 ∧
      256 * f 2 3 0 + f 3 7 0 = c.applied ∧ 16 * f 4 7 0 + f 5 7 4 = c.claim ∧ 256 * f 5 3 0 + f 6 7 0 = c.demand ∧
      16 * f 7 7 0 + f 8 7 4 = c.limit.getD 0 ∧ 256 * f 8 3 0 + f 9 7 0 = c.want.getD 0 ∧ f 10 7 0 = c.discards ∧
      ∀ k : Fin 8, let e := c.coils.get k
        f (11 + 3 * k.val) 7 5 = e.q ∧ conditions[f (11 + 3 * k.val) 4 2]? = some e.condition ∧
          (f (11 + 3 * k.val) 1 1 = 1 ↔ e.driving = true) ∧ f (11 + 3 * k.val) 0 0 = 0 ∧ f (12 + 3 * k.val) 7 3 = 0 ∧
          bands[f (12 + 3 * k.val) 2 0]? = some e.band ∧ f (13 + 3 * k.val) 7 0 = e.label) ∧
  (∀ c : PanContent, c.Legal → (encodePan c).length = 10 ∧ decodePan (encodePan c) = c) ∧
  ∀ c : StatusContent, c.Legal → (encodeStatus c).length = 35 ∧ decodeStatus (encodeStatus c) = c

/-- R51, R55, R178: a frame as sent is its arbitration byte, its payload and two check characters; a receiver's check of
it succeeds, and the check register ends at 0 over the whole frame. The register starts at all ones and takes the bytes most
significant bit first by the generator x^16+x^13+x^12+x^11+x^10+x^8+x^6+x^5+x^2+1, and a received check that differs from
it in any bit fails. -/
def Obligations.SentFramesPassTheCheck : Prop :=
  (∀ bytes : List Byte,
    let generator : BitVec 16 := ([0, 2, 5, 6, 8, 10, 11, 12, 13] : List Nat).foldl (fun g k => g ^^^ (1#16 <<< k)) 0#16
    let shift := fun (r : BitVec 16) (b : Bool) => if r.msb = b then r <<< 1 else (r <<< 1) ^^^ generator
    crc bytes = (bytes.flatMap fun b => (List.range 8).map fun k => b.toNat.testBit (7 - k)).foldl shift
      (BitVec.allOnes 16)) ∧
  (∀ (cls : Nat) (env : Envelope) (payload : List Byte),
    checkMatches cls env payload = true ↔ env.check =
      crc (BitVec.ofNat 8 (cls * 32 + env.source.val * 2 + (if env.last = true then 1 else 0)) :: payload)) ∧
  ∀ (cls : Nat) (src : Fin 16) (payload : List Byte), cls < 8 →
    let f := frameOf cls src.val payload
    f.length = payload.length + 3 ∧ f.head? = some (BitVec.ofNat 8 (cls * 32 + src.val * 2 + 1)) ∧
      (∃ hi lo, f = f.head?.toList ++ payload ++ [hi, lo] ∧
        checkMatches cls { source := src, last := true, check := BitVec.ofNat 16 (hi.toNat * 256 + lo.toNat) } payload
          = true) ∧
      crc f = 0#16

/-! ### Invariants and whole-machine rules -/

/-- R130, R124: every step keeps the claim within budget and demand, at 0 unless the station is joined and armed, and the
scaled targets within the claim. -/
def Obligations.EveryStepKeepsTheClaim : Prop :=
  ∀ s t : State, s.ClaimKept → step s = .next t → t.ClaimKept

/-- R165: at every step a gate pattern stands only for a drivable, unstopped drive member of a group that is ON, inside
the drive span, with the station joined, in OK, armed and its gate supply good. -/
def Obligations.EveryStepKeepsTheGates : Prop :=
  ∀ s t : State, s.GatesKept → step s = .next t → t.GatesKept

/-- R86 to R89: every step keeps the registry at no more than 16 records in rising ID, and labels on covered coils; it
keeps a record for every label of an own coil, and none of those HEARD, or HELD and LIFTED. -/
def Obligations.EveryStepKeepsTheRegistry : Prop :=
  (∀ s t : State, s.RegistryKept → step s = .next t → t.RegistryKept) ∧
  ∀ s t : State, s.RegistryKept → s.LabelsRecorded → step s = .next t → t.LabelsRecorded

/-- R141, R148, R151, R153, R162: every step keeps limits, wants, periods and densities in their ranges, the station limit
at the lowest of its members and S at the surface period of the entries. -/
def Obligations.EveryStepKeepsThePeriods : Prop :=
  ∀ s t : State, s.PeriodsKept → step s = .next t → t.PeriodsKept

/-- R14, R17, R21, R36, R37, R55, R58, R61: every step keeps the counters of the mains timing unit and the probe unit in
their ranges, and the transmit slots as the link state has them. -/
def Obligations.EveryStepKeepsCountersAndSlots : Prop :=
  ∀ s t : State, step s = .next t → (s.CountersKept → t.CountersKept) ∧ (s.BusKept → t.BusKept)

/-- R34, R43, R69, R172: CONFLICT, LOCKED, an OPEN coil and a first-result flag last until reset. -/
def Obligations.OnlyResetEndsConflictLockAndOpen : Prop :=
  ∀ (i : Instr) (s t : State), i.leavesReset = false → exec i s = .next t →
    (s.tbi.link = .conflict → t.tbi.link = .conflict) ∧
    (s.prt.state = .locked → t.prt.state = .locked) ∧
    ∀ c, ((s.prb.coils.get c).opened = true → (t.prb.coils.get c).opened = true ∧
        (t.prb.coils.get c).condition = .opened) ∧
      ((s.prb.coils.get c).firstResult = true → (t.prb.coils.get c).firstResult = true)
end

