-- ==== Sys2Proof/Laws/Oct.lean ====
section
/-!
SUPPORT. The laws of eight-fold arrays: reading after writing, building and mapping.
-/

namespace Sys2Proof

variable {α β : Type}

theorem mem_eight (i : Fin 8) : i ∈ eight := by
  revert i; decide

@[simp] theorem Oct.get_ofFn (f : Fin 8 → α) (i : Fin 8) : (Oct.ofFn f).get i = f i := by
  fin_cases i <;> rfl

@[simp] theorem Oct.get_all (a : α) (i : Fin 8) : (Oct.all a).get i = a := by
  fin_cases i <;> rfl

@[simp] theorem Oct.get_map (f : α → β) (o : Oct α) (i : Fin 8) : (o.map f).get i = f (o.get i) := by
  simp [Oct.map]

theorem Oct.get_set (o : Oct α) (i j : Fin 8) (a : α) : (o.set i a).get j = if j = i then a else o.get j := by
  simp [Oct.set]

@[simp] theorem Oct.get_set_same (o : Oct α) (i : Fin 8) (a : α) : (o.set i a).get i = a := by
  simp [Oct.get_set]

@[simp] theorem Oct.get_set_other (o : Oct α) {i j : Fin 8} (h : j ≠ i) (a : α) : (o.set i a).get j = o.get j := by
  simp [Oct.get_set, h]

theorem Oct.ext_get {o p : Oct α} (h : ∀ i, o.get i = p.get i) : o = p := by
  cases o; cases p
  have h0 := h 0; have h1 := h 1; have h2 := h 2; have h3 := h 3
  have h4 := h 4; have h5 := h 5; have h6 := h 6; have h7 := h 7
  simp only [Oct.get] at h0 h1 h2 h3 h4 h5 h6 h7
  simp_all

@[simp] theorem Oct.ofFn_get (o : Oct α) : Oct.ofFn o.get = o := Oct.ext_get fun _ => by simp

@[simp] theorem Oct.set_get (o : Oct α) (i : Fin 8) : o.set i (o.get i) = o :=
  Oct.ext_get fun j => by simp only [Oct.get_set]; split <;> simp_all

end Sys2Proof
end

