-- ==== Sys2Proof/Laws/State.lean ====
section
/-!
SUPPORT. One lemma per field per update: the blocks that the plain updates of State leave as they are, each true by
unfolding, and what the plain updates write.
-/

namespace Sys2Proof.Machine

/-! `State.advance` -/

@[simp] theorem State.advance_pending (dt : Nat) (s : State) : (s.advance dt).pending = s.pending := rfl
@[simp] theorem State.advance_inReset (dt : Nat) (s : State) : (s.advance dt).inReset = s.inReset := rfl
@[simp] theorem State.advance_supplyWasLow (dt : Nat) (s : State) : (s.advance dt).supplyWasLow = s.supplyWasLow := rfl
@[simp] theorem State.advance_cause (dt : Nat) (s : State) : (s.advance dt).cause = s.cause := rfl
@[simp] theorem State.advance_straps (dt : Nat) (s : State) : (s.advance dt).straps = s.straps := rfl
@[simp] theorem State.advance_free (dt : Nat) (s : State) : (s.advance dt).free = s.free := rfl
@[simp] theorem State.advance_mtu (dt : Nat) (s : State) : (s.advance dt).mtu = s.mtu := rfl
@[simp] theorem State.advance_bgu (dt : Nat) (s : State) : (s.advance dt).bgu = s.bgu := rfl
@[simp] theorem State.advance_fqu (dt : Nat) (s : State) : (s.advance dt).fqu = s.fqu := rfl
@[simp] theorem State.advance_drv (dt : Nat) (s : State) : (s.advance dt).drv = s.drv := rfl

/-! `State.statusChange` -/

@[simp] theorem State.statusChange_pending (s : State) : (s.statusChange).pending = s.pending := rfl
@[simp] theorem State.statusChange_clock (s : State) : (s.statusChange).clock = s.clock := rfl
@[simp] theorem State.statusChange_inReset (s : State) : (s.statusChange).inReset = s.inReset := rfl
@[simp] theorem State.statusChange_supplyWasLow (s : State) : (s.statusChange).supplyWasLow = s.supplyWasLow := rfl
@[simp] theorem State.statusChange_cause (s : State) : (s.statusChange).cause = s.cause := rfl
@[simp] theorem State.statusChange_straps (s : State) : (s.statusChange).straps = s.straps := rfl
@[simp] theorem State.statusChange_free (s : State) : (s.statusChange).free = s.free := rfl
@[simp] theorem State.statusChange_mtu (s : State) : (s.statusChange).mtu = s.mtu := rfl
@[simp] theorem State.statusChange_prb (s : State) : (s.statusChange).prb = s.prb := rfl
@[simp] theorem State.statusChange_svw (s : State) : (s.statusChange).svw = s.svw := rfl
@[simp] theorem State.statusChange_ptk (s : State) : (s.statusChange).ptk = s.ptk := rfl
@[simp] theorem State.statusChange_lau (s : State) : (s.statusChange).lau = s.lau := rfl
@[simp] theorem State.statusChange_bgu (s : State) : (s.statusChange).bgu = s.bgu := rfl
@[simp] theorem State.statusChange_fqu (s : State) : (s.statusChange).fqu = s.fqu := rfl
@[simp] theorem State.statusChange_drv (s : State) : (s.statusChange).drv = s.drv := rfl
@[simp] theorem State.statusChange_prt (s : State) : (s.statusChange).prt = s.prt := rfl

/-! `State.trigger` -/

@[simp] theorem State.trigger_pending (s : State) : (s.trigger).pending = s.pending := rfl
@[simp] theorem State.trigger_clock (s : State) : (s.trigger).clock = s.clock := rfl
@[simp] theorem State.trigger_inReset (s : State) : (s.trigger).inReset = s.inReset := rfl
@[simp] theorem State.trigger_supplyWasLow (s : State) : (s.trigger).supplyWasLow = s.supplyWasLow := rfl
@[simp] theorem State.trigger_cause (s : State) : (s.trigger).cause = s.cause := rfl
@[simp] theorem State.trigger_straps (s : State) : (s.trigger).straps = s.straps := rfl
@[simp] theorem State.trigger_free (s : State) : (s.trigger).free = s.free := rfl
@[simp] theorem State.trigger_mtu (s : State) : (s.trigger).mtu = s.mtu := rfl
@[simp] theorem State.trigger_prb (s : State) : (s.trigger).prb = s.prb := rfl
@[simp] theorem State.trigger_tbi (s : State) : (s.trigger).tbi = s.tbi := rfl
@[simp] theorem State.trigger_svw (s : State) : (s.trigger).svw = s.svw := rfl
@[simp] theorem State.trigger_lau (s : State) : (s.trigger).lau = s.lau := rfl
@[simp] theorem State.trigger_bgu (s : State) : (s.trigger).bgu = s.bgu := rfl
@[simp] theorem State.trigger_fqu (s : State) : (s.trigger).fqu = s.fqu := rfl
@[simp] theorem State.trigger_drv (s : State) : (s.trigger).drv = s.drv := rfl
@[simp] theorem State.trigger_prt (s : State) : (s.trigger).prt = s.prt := rfl

/-! `State.refreshPeriod` -/

@[simp] theorem State.refreshPeriod_pending (s : State) : (s.refreshPeriod).pending = s.pending := rfl
@[simp] theorem State.refreshPeriod_clock (s : State) : (s.refreshPeriod).clock = s.clock := rfl
@[simp] theorem State.refreshPeriod_inReset (s : State) : (s.refreshPeriod).inReset = s.inReset := rfl
@[simp] theorem State.refreshPeriod_supplyWasLow (s : State) : (s.refreshPeriod).supplyWasLow = s.supplyWasLow := rfl
@[simp] theorem State.refreshPeriod_cause (s : State) : (s.refreshPeriod).cause = s.cause := rfl
@[simp] theorem State.refreshPeriod_straps (s : State) : (s.refreshPeriod).straps = s.straps := rfl
@[simp] theorem State.refreshPeriod_free (s : State) : (s.refreshPeriod).free = s.free := rfl
@[simp] theorem State.refreshPeriod_mtu (s : State) : (s.refreshPeriod).mtu = s.mtu := rfl
@[simp] theorem State.refreshPeriod_prb (s : State) : (s.refreshPeriod).prb = s.prb := rfl
@[simp] theorem State.refreshPeriod_tbi (s : State) : (s.refreshPeriod).tbi = s.tbi := rfl
@[simp] theorem State.refreshPeriod_svw (s : State) : (s.refreshPeriod).svw = s.svw := rfl
@[simp] theorem State.refreshPeriod_ptk (s : State) : (s.refreshPeriod).ptk = s.ptk := rfl
@[simp] theorem State.refreshPeriod_lau (s : State) : (s.refreshPeriod).lau = s.lau := rfl
@[simp] theorem State.refreshPeriod_bgu (s : State) : (s.refreshPeriod).bgu = s.bgu := rfl
@[simp] theorem State.refreshPeriod_drv (s : State) : (s.refreshPeriod).drv = s.drv := rfl
@[simp] theorem State.refreshPeriod_prt (s : State) : (s.refreshPeriod).prt = s.prt := rfl

/-! `State.takeSamples` -/

@[simp] theorem State.takeSamples_pending (samples : Oct (List Sample)) (s : State) : (s.takeSamples samples).pending = s.pending := rfl
@[simp] theorem State.takeSamples_clock (samples : Oct (List Sample)) (s : State) : (s.takeSamples samples).clock = s.clock := rfl
@[simp] theorem State.takeSamples_inReset (samples : Oct (List Sample)) (s : State) : (s.takeSamples samples).inReset = s.inReset := rfl
@[simp] theorem State.takeSamples_supplyWasLow (samples : Oct (List Sample)) (s : State) : (s.takeSamples samples).supplyWasLow = s.supplyWasLow := rfl
@[simp] theorem State.takeSamples_cause (samples : Oct (List Sample)) (s : State) : (s.takeSamples samples).cause = s.cause := rfl
@[simp] theorem State.takeSamples_straps (samples : Oct (List Sample)) (s : State) : (s.takeSamples samples).straps = s.straps := rfl
@[simp] theorem State.takeSamples_free (samples : Oct (List Sample)) (s : State) : (s.takeSamples samples).free = s.free := rfl
@[simp] theorem State.takeSamples_mtu (samples : Oct (List Sample)) (s : State) : (s.takeSamples samples).mtu = s.mtu := rfl
@[simp] theorem State.takeSamples_prb (samples : Oct (List Sample)) (s : State) : (s.takeSamples samples).prb = s.prb := rfl
@[simp] theorem State.takeSamples_tbi (samples : Oct (List Sample)) (s : State) : (s.takeSamples samples).tbi = s.tbi := rfl
@[simp] theorem State.takeSamples_svw (samples : Oct (List Sample)) (s : State) : (s.takeSamples samples).svw = s.svw := rfl
@[simp] theorem State.takeSamples_ptk (samples : Oct (List Sample)) (s : State) : (s.takeSamples samples).ptk = s.ptk := rfl
@[simp] theorem State.takeSamples_lau (samples : Oct (List Sample)) (s : State) : (s.takeSamples samples).lau = s.lau := rfl
@[simp] theorem State.takeSamples_bgu (samples : Oct (List Sample)) (s : State) : (s.takeSamples samples).bgu = s.bgu := rfl
@[simp] theorem State.takeSamples_fqu (samples : Oct (List Sample)) (s : State) : (s.takeSamples samples).fqu = s.fqu := rfl
@[simp] theorem State.takeSamples_prt (samples : Oct (List Sample)) (s : State) : (s.takeSamples samples).prt = s.prt := rfl

/-! `State.endSwitching` -/

@[simp] theorem State.endSwitching_pending (c : Fin 8) (s : State) : (s.endSwitching c).pending = s.pending := rfl
@[simp] theorem State.endSwitching_clock (c : Fin 8) (s : State) : (s.endSwitching c).clock = s.clock := rfl
@[simp] theorem State.endSwitching_inReset (c : Fin 8) (s : State) : (s.endSwitching c).inReset = s.inReset := rfl
@[simp] theorem State.endSwitching_supplyWasLow (c : Fin 8) (s : State) : (s.endSwitching c).supplyWasLow = s.supplyWasLow := rfl
@[simp] theorem State.endSwitching_cause (c : Fin 8) (s : State) : (s.endSwitching c).cause = s.cause := rfl
@[simp] theorem State.endSwitching_straps (c : Fin 8) (s : State) : (s.endSwitching c).straps = s.straps := rfl
@[simp] theorem State.endSwitching_free (c : Fin 8) (s : State) : (s.endSwitching c).free = s.free := rfl
@[simp] theorem State.endSwitching_mtu (c : Fin 8) (s : State) : (s.endSwitching c).mtu = s.mtu := rfl
@[simp] theorem State.endSwitching_prb (c : Fin 8) (s : State) : (s.endSwitching c).prb = s.prb := rfl
@[simp] theorem State.endSwitching_tbi (c : Fin 8) (s : State) : (s.endSwitching c).tbi = s.tbi := rfl
@[simp] theorem State.endSwitching_svw (c : Fin 8) (s : State) : (s.endSwitching c).svw = s.svw := rfl
@[simp] theorem State.endSwitching_ptk (c : Fin 8) (s : State) : (s.endSwitching c).ptk = s.ptk := rfl
@[simp] theorem State.endSwitching_lau (c : Fin 8) (s : State) : (s.endSwitching c).lau = s.lau := rfl
@[simp] theorem State.endSwitching_bgu (c : Fin 8) (s : State) : (s.endSwitching c).bgu = s.bgu := rfl
@[simp] theorem State.endSwitching_fqu (c : Fin 8) (s : State) : (s.endSwitching c).fqu = s.fqu := rfl
@[simp] theorem State.endSwitching_prt (c : Fin 8) (s : State) : (s.endSwitching c).prt = s.prt := rfl

/-! `State.writeRecord` -/

@[simp] theorem State.writeRecord_pending (r : PanRecord) (s : State) : (s.writeRecord r).pending = s.pending := rfl
@[simp] theorem State.writeRecord_clock (r : PanRecord) (s : State) : (s.writeRecord r).clock = s.clock := rfl
@[simp] theorem State.writeRecord_inReset (r : PanRecord) (s : State) : (s.writeRecord r).inReset = s.inReset := rfl
@[simp] theorem State.writeRecord_supplyWasLow (r : PanRecord) (s : State) : (s.writeRecord r).supplyWasLow = s.supplyWasLow := rfl
@[simp] theorem State.writeRecord_cause (r : PanRecord) (s : State) : (s.writeRecord r).cause = s.cause := rfl
@[simp] theorem State.writeRecord_straps (r : PanRecord) (s : State) : (s.writeRecord r).straps = s.straps := rfl
@[simp] theorem State.writeRecord_free (r : PanRecord) (s : State) : (s.writeRecord r).free = s.free := rfl
@[simp] theorem State.writeRecord_mtu (r : PanRecord) (s : State) : (s.writeRecord r).mtu = s.mtu := rfl
@[simp] theorem State.writeRecord_prb (r : PanRecord) (s : State) : (s.writeRecord r).prb = s.prb := rfl
@[simp] theorem State.writeRecord_tbi (r : PanRecord) (s : State) : (s.writeRecord r).tbi = s.tbi := rfl
@[simp] theorem State.writeRecord_svw (r : PanRecord) (s : State) : (s.writeRecord r).svw = s.svw := rfl
@[simp] theorem State.writeRecord_lau (r : PanRecord) (s : State) : (s.writeRecord r).lau = s.lau := rfl
@[simp] theorem State.writeRecord_bgu (r : PanRecord) (s : State) : (s.writeRecord r).bgu = s.bgu := rfl
@[simp] theorem State.writeRecord_fqu (r : PanRecord) (s : State) : (s.writeRecord r).fqu = s.fqu := rfl
@[simp] theorem State.writeRecord_drv (r : PanRecord) (s : State) : (s.writeRecord r).drv = s.drv := rfl
@[simp] theorem State.writeRecord_prt (r : PanRecord) (s : State) : (s.writeRecord r).prt = s.prt := rfl

/-! `State.announceGone` -/

@[simp] theorem State.announceGone_pending (r : PanRecord) (s : State) : (s.announceGone r).pending = s.pending := rfl
@[simp] theorem State.announceGone_clock (r : PanRecord) (s : State) : (s.announceGone r).clock = s.clock := rfl
@[simp] theorem State.announceGone_inReset (r : PanRecord) (s : State) : (s.announceGone r).inReset = s.inReset := rfl
@[simp] theorem State.announceGone_supplyWasLow (r : PanRecord) (s : State) : (s.announceGone r).supplyWasLow = s.supplyWasLow := rfl
@[simp] theorem State.announceGone_cause (r : PanRecord) (s : State) : (s.announceGone r).cause = s.cause := rfl
@[simp] theorem State.announceGone_straps (r : PanRecord) (s : State) : (s.announceGone r).straps = s.straps := rfl
@[simp] theorem State.announceGone_free (r : PanRecord) (s : State) : (s.announceGone r).free = s.free := rfl
@[simp] theorem State.announceGone_mtu (r : PanRecord) (s : State) : (s.announceGone r).mtu = s.mtu := rfl
@[simp] theorem State.announceGone_prb (r : PanRecord) (s : State) : (s.announceGone r).prb = s.prb := rfl
@[simp] theorem State.announceGone_svw (r : PanRecord) (s : State) : (s.announceGone r).svw = s.svw := rfl
@[simp] theorem State.announceGone_ptk (r : PanRecord) (s : State) : (s.announceGone r).ptk = s.ptk := rfl
@[simp] theorem State.announceGone_lau (r : PanRecord) (s : State) : (s.announceGone r).lau = s.lau := rfl
@[simp] theorem State.announceGone_bgu (r : PanRecord) (s : State) : (s.announceGone r).bgu = s.bgu := rfl
@[simp] theorem State.announceGone_fqu (r : PanRecord) (s : State) : (s.announceGone r).fqu = s.fqu := rfl
@[simp] theorem State.announceGone_drv (r : PanRecord) (s : State) : (s.announceGone r).drv = s.drv := rfl
@[simp] theorem State.announceGone_prt (r : PanRecord) (s : State) : (s.announceGone r).prt = s.prt := rfl

/-! `State.dropPanTimers` -/

@[simp] theorem State.dropPanTimers_pending (s : State) : (s.dropPanTimers).pending = s.pending := rfl
@[simp] theorem State.dropPanTimers_clock (s : State) : (s.dropPanTimers).clock = s.clock := rfl
@[simp] theorem State.dropPanTimers_inReset (s : State) : (s.dropPanTimers).inReset = s.inReset := rfl
@[simp] theorem State.dropPanTimers_supplyWasLow (s : State) : (s.dropPanTimers).supplyWasLow = s.supplyWasLow := rfl
@[simp] theorem State.dropPanTimers_cause (s : State) : (s.dropPanTimers).cause = s.cause := rfl
@[simp] theorem State.dropPanTimers_straps (s : State) : (s.dropPanTimers).straps = s.straps := rfl
@[simp] theorem State.dropPanTimers_free (s : State) : (s.dropPanTimers).free = s.free := rfl
@[simp] theorem State.dropPanTimers_mtu (s : State) : (s.dropPanTimers).mtu = s.mtu := rfl
@[simp] theorem State.dropPanTimers_prb (s : State) : (s.dropPanTimers).prb = s.prb := rfl
@[simp] theorem State.dropPanTimers_tbi (s : State) : (s.dropPanTimers).tbi = s.tbi := rfl
@[simp] theorem State.dropPanTimers_svw (s : State) : (s.dropPanTimers).svw = s.svw := rfl
@[simp] theorem State.dropPanTimers_lau (s : State) : (s.dropPanTimers).lau = s.lau := rfl
@[simp] theorem State.dropPanTimers_bgu (s : State) : (s.dropPanTimers).bgu = s.bgu := rfl
@[simp] theorem State.dropPanTimers_fqu (s : State) : (s.dropPanTimers).fqu = s.fqu := rfl
@[simp] theorem State.dropPanTimers_drv (s : State) : (s.dropPanTimers).drv = s.drv := rfl
@[simp] theorem State.dropPanTimers_prt (s : State) : (s.dropPanTimers).prt = s.prt := rfl

/-! `State.startPass` -/

@[simp] theorem State.startPass_pending (s : State) : (s.startPass).pending = s.pending := rfl
@[simp] theorem State.startPass_clock (s : State) : (s.startPass).clock = s.clock := rfl
@[simp] theorem State.startPass_inReset (s : State) : (s.startPass).inReset = s.inReset := rfl
@[simp] theorem State.startPass_supplyWasLow (s : State) : (s.startPass).supplyWasLow = s.supplyWasLow := rfl
@[simp] theorem State.startPass_cause (s : State) : (s.startPass).cause = s.cause := rfl
@[simp] theorem State.startPass_straps (s : State) : (s.startPass).straps = s.straps := rfl
@[simp] theorem State.startPass_free (s : State) : (s.startPass).free = s.free := rfl
@[simp] theorem State.startPass_mtu (s : State) : (s.startPass).mtu = s.mtu := rfl
@[simp] theorem State.startPass_prb (s : State) : (s.startPass).prb = s.prb := rfl
@[simp] theorem State.startPass_tbi (s : State) : (s.startPass).tbi = s.tbi := rfl
@[simp] theorem State.startPass_svw (s : State) : (s.startPass).svw = s.svw := rfl
@[simp] theorem State.startPass_bgu (s : State) : (s.startPass).bgu = s.bgu := rfl
@[simp] theorem State.startPass_fqu (s : State) : (s.startPass).fqu = s.fqu := rfl
@[simp] theorem State.startPass_drv (s : State) : (s.startPass).drv = s.drv := rfl
@[simp] theorem State.startPass_prt (s : State) : (s.startPass).prt = s.prt := rfl

/-! `State.reportNow` -/

@[simp] theorem State.reportNow_pending (s : State) : (s.reportNow).pending = s.pending := rfl
@[simp] theorem State.reportNow_clock (s : State) : (s.reportNow).clock = s.clock := rfl
@[simp] theorem State.reportNow_inReset (s : State) : (s.reportNow).inReset = s.inReset := rfl
@[simp] theorem State.reportNow_supplyWasLow (s : State) : (s.reportNow).supplyWasLow = s.supplyWasLow := rfl
@[simp] theorem State.reportNow_cause (s : State) : (s.reportNow).cause = s.cause := rfl
@[simp] theorem State.reportNow_straps (s : State) : (s.reportNow).straps = s.straps := rfl
@[simp] theorem State.reportNow_free (s : State) : (s.reportNow).free = s.free := rfl
@[simp] theorem State.reportNow_mtu (s : State) : (s.reportNow).mtu = s.mtu := rfl
@[simp] theorem State.reportNow_prb (s : State) : (s.reportNow).prb = s.prb := rfl
@[simp] theorem State.reportNow_svw (s : State) : (s.reportNow).svw = s.svw := rfl
@[simp] theorem State.reportNow_bgu (s : State) : (s.reportNow).bgu = s.bgu := rfl
@[simp] theorem State.reportNow_fqu (s : State) : (s.reportNow).fqu = s.fqu := rfl
@[simp] theorem State.reportNow_drv (s : State) : (s.reportNow).drv = s.drv := rfl
@[simp] theorem State.reportNow_prt (s : State) : (s.reportNow).prt = s.prt := rfl

/-! `State.closeTracking` -/

@[simp] theorem State.closeTracking_pending (s : State) : (s.closeTracking).pending = s.pending := rfl
@[simp] theorem State.closeTracking_clock (s : State) : (s.closeTracking).clock = s.clock := rfl
@[simp] theorem State.closeTracking_inReset (s : State) : (s.closeTracking).inReset = s.inReset := rfl
@[simp] theorem State.closeTracking_supplyWasLow (s : State) : (s.closeTracking).supplyWasLow = s.supplyWasLow := rfl
@[simp] theorem State.closeTracking_cause (s : State) : (s.closeTracking).cause = s.cause := rfl
@[simp] theorem State.closeTracking_straps (s : State) : (s.closeTracking).straps = s.straps := rfl
@[simp] theorem State.closeTracking_free (s : State) : (s.closeTracking).free = s.free := rfl
@[simp] theorem State.closeTracking_prb (s : State) : (s.closeTracking).prb = s.prb := rfl
@[simp] theorem State.closeTracking_tbi (s : State) : (s.closeTracking).tbi = s.tbi := rfl
@[simp] theorem State.closeTracking_svw (s : State) : (s.closeTracking).svw = s.svw := rfl
@[simp] theorem State.closeTracking_ptk (s : State) : (s.closeTracking).ptk = s.ptk := rfl
@[simp] theorem State.closeTracking_lau (s : State) : (s.closeTracking).lau = s.lau := rfl
@[simp] theorem State.closeTracking_bgu (s : State) : (s.closeTracking).bgu = s.bgu := rfl
@[simp] theorem State.closeTracking_drv (s : State) : (s.closeTracking).drv = s.drv := rfl
@[simp] theorem State.closeTracking_prt (s : State) : (s.closeTracking).prt = s.prt := rfl

/-! `State.applyPeriod` -/

@[simp] theorem State.applyPeriod_pending (s : State) : (s.applyPeriod).pending = s.pending := rfl
@[simp] theorem State.applyPeriod_clock (s : State) : (s.applyPeriod).clock = s.clock := rfl
@[simp] theorem State.applyPeriod_inReset (s : State) : (s.applyPeriod).inReset = s.inReset := rfl
@[simp] theorem State.applyPeriod_supplyWasLow (s : State) : (s.applyPeriod).supplyWasLow = s.supplyWasLow := rfl
@[simp] theorem State.applyPeriod_cause (s : State) : (s.applyPeriod).cause = s.cause := rfl
@[simp] theorem State.applyPeriod_straps (s : State) : (s.applyPeriod).straps = s.straps := rfl
@[simp] theorem State.applyPeriod_free (s : State) : (s.applyPeriod).free = s.free := rfl
@[simp] theorem State.applyPeriod_mtu (s : State) : (s.applyPeriod).mtu = s.mtu := rfl
@[simp] theorem State.applyPeriod_prb (s : State) : (s.applyPeriod).prb = s.prb := rfl
@[simp] theorem State.applyPeriod_tbi (s : State) : (s.applyPeriod).tbi = s.tbi := rfl
@[simp] theorem State.applyPeriod_svw (s : State) : (s.applyPeriod).svw = s.svw := rfl
@[simp] theorem State.applyPeriod_ptk (s : State) : (s.applyPeriod).ptk = s.ptk := rfl
@[simp] theorem State.applyPeriod_lau (s : State) : (s.applyPeriod).lau = s.lau := rfl
@[simp] theorem State.applyPeriod_bgu (s : State) : (s.applyPeriod).bgu = s.bgu := rfl
@[simp] theorem State.applyPeriod_drv (s : State) : (s.applyPeriod).drv = s.drv := rfl
@[simp] theorem State.applyPeriod_prt (s : State) : (s.applyPeriod).prt = s.prt := rfl

/-! `State.openHalfCycle` -/

@[simp] theorem State.openHalfCycle_pending (s : State) : (s.openHalfCycle).pending = s.pending := rfl
@[simp] theorem State.openHalfCycle_clock (s : State) : (s.openHalfCycle).clock = s.clock := rfl
@[simp] theorem State.openHalfCycle_inReset (s : State) : (s.openHalfCycle).inReset = s.inReset := rfl
@[simp] theorem State.openHalfCycle_supplyWasLow (s : State) : (s.openHalfCycle).supplyWasLow = s.supplyWasLow := rfl
@[simp] theorem State.openHalfCycle_cause (s : State) : (s.openHalfCycle).cause = s.cause := rfl
@[simp] theorem State.openHalfCycle_straps (s : State) : (s.openHalfCycle).straps = s.straps := rfl
@[simp] theorem State.openHalfCycle_free (s : State) : (s.openHalfCycle).free = s.free := rfl
@[simp] theorem State.openHalfCycle_mtu (s : State) : (s.openHalfCycle).mtu = s.mtu := rfl
@[simp] theorem State.openHalfCycle_prb (s : State) : (s.openHalfCycle).prb = s.prb := rfl
@[simp] theorem State.openHalfCycle_tbi (s : State) : (s.openHalfCycle).tbi = s.tbi := rfl
@[simp] theorem State.openHalfCycle_svw (s : State) : (s.openHalfCycle).svw = s.svw := rfl
@[simp] theorem State.openHalfCycle_ptk (s : State) : (s.openHalfCycle).ptk = s.ptk := rfl
@[simp] theorem State.openHalfCycle_lau (s : State) : (s.openHalfCycle).lau = s.lau := rfl
@[simp] theorem State.openHalfCycle_bgu (s : State) : (s.openHalfCycle).bgu = s.bgu := rfl
@[simp] theorem State.openHalfCycle_fqu (s : State) : (s.openHalfCycle).fqu = s.fqu := rfl
@[simp] theorem State.openHalfCycle_prt (s : State) : (s.openHalfCycle).prt = s.prt := rfl

/-! `State.probeCrossing` -/

@[simp] theorem State.probeCrossing_pending (was : Mains) (s : State) : (s.probeCrossing was).pending = s.pending := rfl
@[simp] theorem State.probeCrossing_clock (was : Mains) (s : State) : (s.probeCrossing was).clock = s.clock := rfl
@[simp] theorem State.probeCrossing_inReset (was : Mains) (s : State) : (s.probeCrossing was).inReset = s.inReset := rfl
@[simp] theorem State.probeCrossing_supplyWasLow (was : Mains) (s : State) : (s.probeCrossing was).supplyWasLow = s.supplyWasLow := rfl
@[simp] theorem State.probeCrossing_cause (was : Mains) (s : State) : (s.probeCrossing was).cause = s.cause := rfl
@[simp] theorem State.probeCrossing_straps (was : Mains) (s : State) : (s.probeCrossing was).straps = s.straps := rfl
@[simp] theorem State.probeCrossing_free (was : Mains) (s : State) : (s.probeCrossing was).free = s.free := rfl
@[simp] theorem State.probeCrossing_mtu (was : Mains) (s : State) : (s.probeCrossing was).mtu = s.mtu := rfl
@[simp] theorem State.probeCrossing_tbi (was : Mains) (s : State) : (s.probeCrossing was).tbi = s.tbi := rfl
@[simp] theorem State.probeCrossing_svw (was : Mains) (s : State) : (s.probeCrossing was).svw = s.svw := rfl
@[simp] theorem State.probeCrossing_ptk (was : Mains) (s : State) : (s.probeCrossing was).ptk = s.ptk := rfl
@[simp] theorem State.probeCrossing_lau (was : Mains) (s : State) : (s.probeCrossing was).lau = s.lau := rfl
@[simp] theorem State.probeCrossing_bgu (was : Mains) (s : State) : (s.probeCrossing was).bgu = s.bgu := rfl
@[simp] theorem State.probeCrossing_fqu (was : Mains) (s : State) : (s.probeCrossing was).fqu = s.fqu := rfl
@[simp] theorem State.probeCrossing_drv (was : Mains) (s : State) : (s.probeCrossing was).drv = s.drv := rfl
@[simp] theorem State.probeCrossing_prt (was : Mains) (s : State) : (s.probeCrossing was).prt = s.prt := rfl

/-! `State.endGroups` -/

@[simp] theorem State.endGroups_pending (s : State) : (s.endGroups).pending = s.pending := rfl
@[simp] theorem State.endGroups_clock (s : State) : (s.endGroups).clock = s.clock := rfl
@[simp] theorem State.endGroups_inReset (s : State) : (s.endGroups).inReset = s.inReset := rfl
@[simp] theorem State.endGroups_supplyWasLow (s : State) : (s.endGroups).supplyWasLow = s.supplyWasLow := rfl
@[simp] theorem State.endGroups_cause (s : State) : (s.endGroups).cause = s.cause := rfl
@[simp] theorem State.endGroups_straps (s : State) : (s.endGroups).straps = s.straps := rfl
@[simp] theorem State.endGroups_free (s : State) : (s.endGroups).free = s.free := rfl
@[simp] theorem State.endGroups_mtu (s : State) : (s.endGroups).mtu = s.mtu := rfl
@[simp] theorem State.endGroups_prb (s : State) : (s.endGroups).prb = s.prb := rfl
@[simp] theorem State.endGroups_tbi (s : State) : (s.endGroups).tbi = s.tbi := rfl
@[simp] theorem State.endGroups_svw (s : State) : (s.endGroups).svw = s.svw := rfl
@[simp] theorem State.endGroups_ptk (s : State) : (s.endGroups).ptk = s.ptk := rfl
@[simp] theorem State.endGroups_bgu (s : State) : (s.endGroups).bgu = s.bgu := rfl
@[simp] theorem State.endGroups_fqu (s : State) : (s.endGroups).fqu = s.fqu := rfl
@[simp] theorem State.endGroups_drv (s : State) : (s.endGroups).drv = s.drv := rfl
@[simp] theorem State.endGroups_prt (s : State) : (s.endGroups).prt = s.prt := rfl

/-! `State.dropPass` -/

@[simp] theorem State.dropPass_pending (s : State) : (s.dropPass).pending = s.pending := rfl
@[simp] theorem State.dropPass_clock (s : State) : (s.dropPass).clock = s.clock := rfl
@[simp] theorem State.dropPass_inReset (s : State) : (s.dropPass).inReset = s.inReset := rfl
@[simp] theorem State.dropPass_supplyWasLow (s : State) : (s.dropPass).supplyWasLow = s.supplyWasLow := rfl
@[simp] theorem State.dropPass_cause (s : State) : (s.dropPass).cause = s.cause := rfl
@[simp] theorem State.dropPass_straps (s : State) : (s.dropPass).straps = s.straps := rfl
@[simp] theorem State.dropPass_free (s : State) : (s.dropPass).free = s.free := rfl
@[simp] theorem State.dropPass_mtu (s : State) : (s.dropPass).mtu = s.mtu := rfl
@[simp] theorem State.dropPass_prb (s : State) : (s.dropPass).prb = s.prb := rfl
@[simp] theorem State.dropPass_tbi (s : State) : (s.dropPass).tbi = s.tbi := rfl
@[simp] theorem State.dropPass_svw (s : State) : (s.dropPass).svw = s.svw := rfl
@[simp] theorem State.dropPass_bgu (s : State) : (s.dropPass).bgu = s.bgu := rfl
@[simp] theorem State.dropPass_fqu (s : State) : (s.dropPass).fqu = s.fqu := rfl
@[simp] theorem State.dropPass_drv (s : State) : (s.dropPass).drv = s.drv := rfl
@[simp] theorem State.dropPass_prt (s : State) : (s.dropPass).prt = s.prt := rfl

/-! `State.endTracking` -/

@[simp] theorem State.endTracking_pending (s : State) : (s.endTracking).pending = s.pending := rfl
@[simp] theorem State.endTracking_clock (s : State) : (s.endTracking).clock = s.clock := rfl
@[simp] theorem State.endTracking_inReset (s : State) : (s.endTracking).inReset = s.inReset := rfl
@[simp] theorem State.endTracking_supplyWasLow (s : State) : (s.endTracking).supplyWasLow = s.supplyWasLow := rfl
@[simp] theorem State.endTracking_cause (s : State) : (s.endTracking).cause = s.cause := rfl
@[simp] theorem State.endTracking_straps (s : State) : (s.endTracking).straps = s.straps := rfl
@[simp] theorem State.endTracking_free (s : State) : (s.endTracking).free = s.free := rfl
@[simp] theorem State.endTracking_mtu (s : State) : (s.endTracking).mtu = s.mtu := rfl
@[simp] theorem State.endTracking_prb (s : State) : (s.endTracking).prb = s.prb := rfl
@[simp] theorem State.endTracking_tbi (s : State) : (s.endTracking).tbi = s.tbi := rfl
@[simp] theorem State.endTracking_svw (s : State) : (s.endTracking).svw = s.svw := rfl
@[simp] theorem State.endTracking_lau (s : State) : (s.endTracking).lau = s.lau := rfl
@[simp] theorem State.endTracking_bgu (s : State) : (s.endTracking).bgu = s.bgu := rfl
@[simp] theorem State.endTracking_fqu (s : State) : (s.endTracking).fqu = s.fqu := rfl
@[simp] theorem State.endTracking_drv (s : State) : (s.endTracking).drv = s.drv := rfl
@[simp] theorem State.endTracking_prt (s : State) : (s.endTracking).prt = s.prt := rfl

/-! `State.discard` -/

@[simp] theorem State.discard_pending (s : State) : (s.discard).pending = s.pending := rfl
@[simp] theorem State.discard_clock (s : State) : (s.discard).clock = s.clock := rfl
@[simp] theorem State.discard_inReset (s : State) : (s.discard).inReset = s.inReset := rfl
@[simp] theorem State.discard_supplyWasLow (s : State) : (s.discard).supplyWasLow = s.supplyWasLow := rfl
@[simp] theorem State.discard_cause (s : State) : (s.discard).cause = s.cause := rfl
@[simp] theorem State.discard_straps (s : State) : (s.discard).straps = s.straps := rfl
@[simp] theorem State.discard_free (s : State) : (s.discard).free = s.free := rfl
@[simp] theorem State.discard_mtu (s : State) : (s.discard).mtu = s.mtu := rfl
@[simp] theorem State.discard_prb (s : State) : (s.discard).prb = s.prb := rfl
@[simp] theorem State.discard_svw (s : State) : (s.discard).svw = s.svw := rfl
@[simp] theorem State.discard_ptk (s : State) : (s.discard).ptk = s.ptk := rfl
@[simp] theorem State.discard_lau (s : State) : (s.discard).lau = s.lau := rfl
@[simp] theorem State.discard_bgu (s : State) : (s.discard).bgu = s.bgu := rfl
@[simp] theorem State.discard_fqu (s : State) : (s.discard).fqu = s.fqu := rfl
@[simp] theorem State.discard_drv (s : State) : (s.discard).drv = s.drv := rfl
@[simp] theorem State.discard_prt (s : State) : (s.discard).prt = s.prt := rfl

/-! `State.heardFrame` -/

@[simp] theorem State.heardFrame_pending (s : State) : (s.heardFrame).pending = s.pending := rfl
@[simp] theorem State.heardFrame_clock (s : State) : (s.heardFrame).clock = s.clock := rfl
@[simp] theorem State.heardFrame_inReset (s : State) : (s.heardFrame).inReset = s.inReset := rfl
@[simp] theorem State.heardFrame_supplyWasLow (s : State) : (s.heardFrame).supplyWasLow = s.supplyWasLow := rfl
@[simp] theorem State.heardFrame_cause (s : State) : (s.heardFrame).cause = s.cause := rfl
@[simp] theorem State.heardFrame_straps (s : State) : (s.heardFrame).straps = s.straps := rfl
@[simp] theorem State.heardFrame_free (s : State) : (s.heardFrame).free = s.free := rfl
@[simp] theorem State.heardFrame_mtu (s : State) : (s.heardFrame).mtu = s.mtu := rfl
@[simp] theorem State.heardFrame_prb (s : State) : (s.heardFrame).prb = s.prb := rfl
@[simp] theorem State.heardFrame_svw (s : State) : (s.heardFrame).svw = s.svw := rfl
@[simp] theorem State.heardFrame_ptk (s : State) : (s.heardFrame).ptk = s.ptk := rfl
@[simp] theorem State.heardFrame_lau (s : State) : (s.heardFrame).lau = s.lau := rfl
@[simp] theorem State.heardFrame_bgu (s : State) : (s.heardFrame).bgu = s.bgu := rfl
@[simp] theorem State.heardFrame_fqu (s : State) : (s.heardFrame).fqu = s.fqu := rfl
@[simp] theorem State.heardFrame_drv (s : State) : (s.heardFrame).drv = s.drv := rfl
@[simp] theorem State.heardFrame_prt (s : State) : (s.heardFrame).prt = s.prt := rfl

/-! What they write -/

@[simp] theorem State.advance_clock (dt : Nat) (s : State) : (s.advance dt).clock = s.clock + dt := rfl
@[simp] theorem State.advance_link (dt : Nat) (s : State) : (s.advance dt).tbi.link = s.tbi.link := rfl
@[simp] theorem State.advance_coils (dt : Nat) (s : State) : (s.advance dt).prb.coils = s.prb.coils := rfl
@[simp] theorem State.advance_inFlight (dt : Nat) (s : State) : (s.advance dt).prb.inFlight = s.prb.inFlight := rfl
@[simp] theorem State.advance_rx (dt : Nat) (s : State) : (s.advance dt).tbi.rx = s.tbi.rx := rfl
@[simp] theorem State.advance_tx (dt : Nat) (s : State) : (s.advance dt).tbi.tx = s.tbi.tx := rfl
@[simp] theorem State.advance_slots (dt : Nat) (s : State) : (s.advance dt).tbi.slots = s.tbi.slots := rfl
@[simp] theorem State.advance_discards (dt : Nat) (s : State) : (s.advance dt).tbi.discards = s.tbi.discards := rfl
@[simp] theorem State.advance_entries (dt : Nat) (s : State) : (s.advance dt).svw.entries = s.svw.entries := rfl
@[simp] theorem State.advance_rows (dt : Nat) (s : State) : (s.advance dt).svw.rows = s.svw.rows := rfl
@[simp] theorem State.advance_fresh (dt : Nat) (s : State) : (s.advance dt).svw.fresh = s.svw.fresh := rfl
@[simp] theorem State.advance_labels (dt : Nat) (s : State) : (s.advance dt).ptk.labels = s.ptk.labels := rfl
@[simp] theorem State.advance_groups (dt : Nat) (s : State) : (s.advance dt).lau.groups = s.lau.groups := rfl
@[simp] theorem State.advance_pass (dt : Nat) (s : State) : (s.advance dt).lau.pass = s.lau.pass := rfl
@[simp] theorem State.advance_protection (dt : Nat) (s : State) : (s.advance dt).prt.state = s.prt.state := rfl
@[simp] theorem State.advance_bands (dt : Nat) (s : State) : (s.advance dt).prt.bands = s.prt.bands := rfl
@[simp] theorem State.statusChange_tbi (s : State) : s.statusChange.tbi = s.tbi.statusChange := rfl
@[simp] theorem State.applyPeriod_sApp (s : State) : s.applyPeriod.fqu.sApp = s.fqu.s := rfl
@[simp] theorem State.closeTracking_span (s : State) : s.closeTracking.mtu.tracking = .over := rfl
@[simp] theorem State.refreshPeriod_limit (s : State) : s.refreshPeriod.fqu.limit = s.lowestLimit := rfl
@[simp] theorem State.refreshPeriod_sApp (s : State) : s.refreshPeriod.fqu.sApp = s.fqu.sApp := rfl
@[simp] theorem State.refreshPeriod_members (s : State) : s.refreshPeriod.fqu.members = s.fqu.members := rfl
@[simp] theorem State.heardFrame_link (s : State) : s.heardFrame.tbi.link = s.tbi.link := rfl

@[simp] theorem Pass.reviewed_demand (b : Nat) (p : Pass) : (p.reviewed b).demand = p.demand := rfl
@[simp] theorem Pass.reviewed_peers (b : Nat) (p : Pass) : (p.reviewed b).peers = p.peers := rfl
@[simp] theorem Pass.reviewed_own (b : Nat) (p : Pass) : (p.reviewed b).own = p.own := rfl
@[simp] theorem Pass.reviewed_allOff (b : Nat) (p : Pass) : (p.reviewed b).allOff = p.allOff := rfl
@[simp] theorem Pass.reviewed_targets (b : Nat) (p : Pass) :
    (p.reviewed b).groups.map (·.target) = p.groups.map (·.target) := by
  simp [Pass.reviewed, Function.comp_def]

@[simp] theorem State.takeSamples_records (samples : Oct (List Sample)) (s : State) :
    (s.takeSamples samples).drv.records = s.drv.records := rfl

/-- R166: samples add to a coil's energy and to the count of those taken, and touch nothing else of it. -/
theorem CoilDrive.addSamples_eq (xs : List Sample) (d : CoilDrive) :
    d.addSamples xs = { d with sampled := (d.addSamples xs).sampled, acc := (d.addSamples xs).acc } := by
  unfold CoilDrive.addSamples; split <;> rfl

@[simp] theorem CoilDrive.addSamples_gates (xs : List Sample) (d : CoilDrive) : (d.addSamples xs).gates = d.gates := by
  rw [CoilDrive.addSamples_eq]
@[simp] theorem CoilDrive.addSamples_inPeriod (xs : List Sample) (d : CoilDrive) : (d.addSamples xs).inPeriod = d.inPeriod := by
  rw [CoilDrive.addSamples_eq]
@[simp] theorem CoilDrive.addSamples_tracked (xs : List Sample) (d : CoilDrive) : (d.addSamples xs).tracked = d.tracked := by
  rw [CoilDrive.addSamples_eq]
@[simp] theorem CoilDrive.addSamples_periods (xs : List Sample) (d : CoilDrive) : (d.addSamples xs).periods = d.periods := by
  rw [CoilDrive.addSamples_eq]
@[simp] theorem CoilDrive.addSamples_len (xs : List Sample) (d : CoilDrive) : (d.addSamples xs).len = d.len := by
  rw [CoilDrive.addSamples_eq]
@[simp] theorem CoilDrive.addSamples_energy (xs : List Sample) (d : CoilDrive) : (d.addSamples xs).energy = d.energy := by
  rw [CoilDrive.addSamples_eq]
@[simp] theorem CoilDrive.addSamples_stopped (xs : List Sample) (d : CoilDrive) : (d.addSamples xs).stopped = d.stopped := by
  rw [CoilDrive.addSamples_eq]
@[simp] theorem CoilDrive.addSamples_driving (xs : List Sample) (d : CoilDrive) : (d.addSamples xs).driving = d.driving := by
  rw [CoilDrive.addSamples_eq]

/-- R95: a trigger leaves labels and registry, and a pass is due after it. -/
theorem State.trigger_running (s : State) : s.trigger.ptk.running = true := by
  unfold State.trigger; split <;> simp_all

@[simp] theorem State.trigger_labels (s : State) : s.trigger.ptk.labels = s.ptk.labels := by
  unfold State.trigger; split <;> rfl

@[simp] theorem State.trigger_registry (s : State) : s.trigger.ptk.registry = s.ptk.registry := by
  unfold State.trigger; split <;> rfl

/-- R63: a STATUS change touches only the STATUS slot and the change mark. -/
theorem Tbi.statusChange_frame (t : Tbi) :
    t.statusChange = { t with statusQueued := t.statusChange.statusQueued, change := t.statusChange.change } := by
  unfold Tbi.statusChange; repeat' split
  all_goals rfl

@[simp] theorem Tbi.statusChange_link (t : Tbi) : t.statusChange.link = t.link := by
  rw [Tbi.statusChange_frame]

end Sys2Proof.Machine
end

