-- ==== Sys2Proof/Laws/Ops.lean ====
section
/-!
SUPPORT. Each shared operation of Machine/Ops.lean and the blocks that it leaves as they are, with the two inductions
over indices and lists from which they follow.
-/

namespace Sys2Proof.Machine

/-- What holds of a state and is kept by `f` at every index holds after all eight. -/
theorem eachOfEight_induct {P : State → Prop} {f : Fin 8 → State → State} (h : ∀ c s, P s → P (f c s))
    {s : State} (hs : P s) : P (eachOfEight f s) := by
  have key : ∀ (l : List (Fin 8)) (s : State), P s → P (l.foldl (fun s c => f c s) s) := by
    intro l
    induction l with
    | nil => exact fun s hs => hs
    | cons c l ih => exact fun s hs => ih _ (h c s hs)
  exact key eight s hs

/-- What holds of a state and is kept by `f` at every element holds after a whole list. -/
theorem foldl_induct {α : Type} {P : State → Prop} {f : α → State → State} (h : ∀ a s, P s → P (f a s)) :
    ∀ (l : List α) {s : State}, P s → P (l.foldl (fun s a => f a s) s)
  | [], _, hs => hs
  | a :: l, s, hs => foldl_induct h l (h a s hs)

/-- A part of the state that `f` leaves alone at every index is the same after all eight. -/
theorem eachOfEight_keeps {β : Type} (g : State → β) {f : Fin 8 → State → State} (h : ∀ c s, g (f c s) = g s)
    (s : State) : g (eachOfEight f s) = g s :=
  eachOfEight_induct (P := fun t => g t = g s) (fun c t ht => (h c t).trans ht) rfl

/-- A part of the state that `f` leaves alone at every element is the same after a whole list. -/
theorem foldl_keeps {α β : Type} (g : State → β) {f : α → State → State} (h : ∀ a s, g (f a s) = g s) (l : List α)
    (s : State) : g (l.foldl (fun s a => f a s) s) = g s :=
  foldl_induct (P := fun t => g t = g s) (fun a t ht => (h a t).trans ht) l rfl

/-- R11, R12: a command either finds the part in reset, or acts after its time has passed. -/
theorem State.running_cases (dt : Nat) (event : State → State) (s : State) :
    s.inReset = true ∧ s.running dt event = s ∨ s.inReset = false ∧ s.running dt event = event (s.advance dt) := by
  unfold State.running; cases h : s.inReset <;> simp

/-! `State.setDriving` -/

@[simp] theorem State.setDriving_pending (c : Fin 8) (b : Bool) (s : State) : (s.setDriving c b).pending = s.pending := by
  unfold State.setDriving; split <;> simp
@[simp] theorem State.setDriving_clock (c : Fin 8) (b : Bool) (s : State) : (s.setDriving c b).clock = s.clock := by
  unfold State.setDriving; split <;> simp
@[simp] theorem State.setDriving_inReset (c : Fin 8) (b : Bool) (s : State) : (s.setDriving c b).inReset = s.inReset := by
  unfold State.setDriving; split <;> simp
@[simp] theorem State.setDriving_supplyWasLow (c : Fin 8) (b : Bool) (s : State) : (s.setDriving c b).supplyWasLow = s.supplyWasLow := by
  unfold State.setDriving; split <;> simp
@[simp] theorem State.setDriving_cause (c : Fin 8) (b : Bool) (s : State) : (s.setDriving c b).cause = s.cause := by
  unfold State.setDriving; split <;> simp
@[simp] theorem State.setDriving_straps (c : Fin 8) (b : Bool) (s : State) : (s.setDriving c b).straps = s.straps := by
  unfold State.setDriving; split <;> simp
@[simp] theorem State.setDriving_free (c : Fin 8) (b : Bool) (s : State) : (s.setDriving c b).free = s.free := by
  unfold State.setDriving; split <;> simp
@[simp] theorem State.setDriving_mtu (c : Fin 8) (b : Bool) (s : State) : (s.setDriving c b).mtu = s.mtu := by
  unfold State.setDriving; split <;> simp
@[simp] theorem State.setDriving_prb (c : Fin 8) (b : Bool) (s : State) : (s.setDriving c b).prb = s.prb := by
  unfold State.setDriving; split <;> simp
@[simp] theorem State.setDriving_svw (c : Fin 8) (b : Bool) (s : State) : (s.setDriving c b).svw = s.svw := by
  unfold State.setDriving; split <;> simp
@[simp] theorem State.setDriving_ptk (c : Fin 8) (b : Bool) (s : State) : (s.setDriving c b).ptk = s.ptk := by
  unfold State.setDriving; split <;> simp
@[simp] theorem State.setDriving_lau (c : Fin 8) (b : Bool) (s : State) : (s.setDriving c b).lau = s.lau := by
  unfold State.setDriving; split <;> simp
@[simp] theorem State.setDriving_bgu (c : Fin 8) (b : Bool) (s : State) : (s.setDriving c b).bgu = s.bgu := by
  unfold State.setDriving; split <;> simp
@[simp] theorem State.setDriving_fqu (c : Fin 8) (b : Bool) (s : State) : (s.setDriving c b).fqu = s.fqu := by
  unfold State.setDriving; split <;> simp
@[simp] theorem State.setDriving_prt (c : Fin 8) (b : Bool) (s : State) : (s.setDriving c b).prt = s.prt := by
  unfold State.setDriving; split <;> simp

/-! `State.becomeDriveMember` -/

@[simp] theorem State.becomeDriveMember_pending (c : Fin 8) (s : State) : (s.becomeDriveMember c).pending = s.pending := by
  simp [State.becomeDriveMember]
@[simp] theorem State.becomeDriveMember_clock (c : Fin 8) (s : State) : (s.becomeDriveMember c).clock = s.clock := by
  simp [State.becomeDriveMember]
@[simp] theorem State.becomeDriveMember_inReset (c : Fin 8) (s : State) : (s.becomeDriveMember c).inReset = s.inReset := by
  simp [State.becomeDriveMember]
@[simp] theorem State.becomeDriveMember_supplyWasLow (c : Fin 8) (s : State) : (s.becomeDriveMember c).supplyWasLow = s.supplyWasLow := by
  simp [State.becomeDriveMember]
@[simp] theorem State.becomeDriveMember_cause (c : Fin 8) (s : State) : (s.becomeDriveMember c).cause = s.cause := by
  simp [State.becomeDriveMember]
@[simp] theorem State.becomeDriveMember_straps (c : Fin 8) (s : State) : (s.becomeDriveMember c).straps = s.straps := by
  simp [State.becomeDriveMember]
@[simp] theorem State.becomeDriveMember_free (c : Fin 8) (s : State) : (s.becomeDriveMember c).free = s.free := by
  simp [State.becomeDriveMember]
@[simp] theorem State.becomeDriveMember_mtu (c : Fin 8) (s : State) : (s.becomeDriveMember c).mtu = s.mtu := by
  simp [State.becomeDriveMember]
@[simp] theorem State.becomeDriveMember_prb (c : Fin 8) (s : State) : (s.becomeDriveMember c).prb = s.prb := by
  simp [State.becomeDriveMember]
@[simp] theorem State.becomeDriveMember_svw (c : Fin 8) (s : State) : (s.becomeDriveMember c).svw = s.svw := by
  simp [State.becomeDriveMember]
@[simp] theorem State.becomeDriveMember_ptk (c : Fin 8) (s : State) : (s.becomeDriveMember c).ptk = s.ptk := by
  simp [State.becomeDriveMember]
@[simp] theorem State.becomeDriveMember_lau (c : Fin 8) (s : State) : (s.becomeDriveMember c).lau = s.lau := by
  simp [State.becomeDriveMember]
@[simp] theorem State.becomeDriveMember_bgu (c : Fin 8) (s : State) : (s.becomeDriveMember c).bgu = s.bgu := by
  simp [State.becomeDriveMember]
@[simp] theorem State.becomeDriveMember_prt (c : Fin 8) (s : State) : (s.becomeDriveMember c).prt = s.prt := by
  simp [State.becomeDriveMember]

/-! `State.leaveDriveMember` -/

@[simp] theorem State.leaveDriveMember_pending (c : Fin 8) (s : State) : (s.leaveDriveMember c).pending = s.pending := by
  simp [State.leaveDriveMember]
@[simp] theorem State.leaveDriveMember_clock (c : Fin 8) (s : State) : (s.leaveDriveMember c).clock = s.clock := by
  simp [State.leaveDriveMember]
@[simp] theorem State.leaveDriveMember_inReset (c : Fin 8) (s : State) : (s.leaveDriveMember c).inReset = s.inReset := by
  simp [State.leaveDriveMember]
@[simp] theorem State.leaveDriveMember_supplyWasLow (c : Fin 8) (s : State) : (s.leaveDriveMember c).supplyWasLow = s.supplyWasLow := by
  simp [State.leaveDriveMember]
@[simp] theorem State.leaveDriveMember_cause (c : Fin 8) (s : State) : (s.leaveDriveMember c).cause = s.cause := by
  simp [State.leaveDriveMember]
@[simp] theorem State.leaveDriveMember_straps (c : Fin 8) (s : State) : (s.leaveDriveMember c).straps = s.straps := by
  simp [State.leaveDriveMember]
@[simp] theorem State.leaveDriveMember_free (c : Fin 8) (s : State) : (s.leaveDriveMember c).free = s.free := by
  simp [State.leaveDriveMember]
@[simp] theorem State.leaveDriveMember_mtu (c : Fin 8) (s : State) : (s.leaveDriveMember c).mtu = s.mtu := by
  simp [State.leaveDriveMember]
@[simp] theorem State.leaveDriveMember_prb (c : Fin 8) (s : State) : (s.leaveDriveMember c).prb = s.prb := by
  simp [State.leaveDriveMember]
@[simp] theorem State.leaveDriveMember_svw (c : Fin 8) (s : State) : (s.leaveDriveMember c).svw = s.svw := by
  simp [State.leaveDriveMember]
@[simp] theorem State.leaveDriveMember_ptk (c : Fin 8) (s : State) : (s.leaveDriveMember c).ptk = s.ptk := by
  simp [State.leaveDriveMember]
@[simp] theorem State.leaveDriveMember_lau (c : Fin 8) (s : State) : (s.leaveDriveMember c).lau = s.lau := by
  simp [State.leaveDriveMember]
@[simp] theorem State.leaveDriveMember_bgu (c : Fin 8) (s : State) : (s.leaveDriveMember c).bgu = s.bgu := by
  simp [State.leaveDriveMember]
@[simp] theorem State.leaveDriveMember_prt (c : Fin 8) (s : State) : (s.leaveDriveMember c).prt = s.prt := by
  simp [State.leaveDriveMember]

/-! `State.leaveGroup` -/

@[simp] theorem State.leaveGroup_pending (c : Fin 8) (p : Nat) (s : State) : (s.leaveGroup c p).pending = s.pending := by
  simp only [State.leaveGroup, State.refreshPeriod_pending]; split <;> simp
@[simp] theorem State.leaveGroup_clock (c : Fin 8) (p : Nat) (s : State) : (s.leaveGroup c p).clock = s.clock := by
  simp only [State.leaveGroup, State.refreshPeriod_clock]; split <;> simp
@[simp] theorem State.leaveGroup_inReset (c : Fin 8) (p : Nat) (s : State) : (s.leaveGroup c p).inReset = s.inReset := by
  simp only [State.leaveGroup, State.refreshPeriod_inReset]; split <;> simp
@[simp] theorem State.leaveGroup_supplyWasLow (c : Fin 8) (p : Nat) (s : State) : (s.leaveGroup c p).supplyWasLow = s.supplyWasLow := by
  simp only [State.leaveGroup, State.refreshPeriod_supplyWasLow]; split <;> simp
@[simp] theorem State.leaveGroup_cause (c : Fin 8) (p : Nat) (s : State) : (s.leaveGroup c p).cause = s.cause := by
  simp only [State.leaveGroup, State.refreshPeriod_cause]; split <;> simp
@[simp] theorem State.leaveGroup_straps (c : Fin 8) (p : Nat) (s : State) : (s.leaveGroup c p).straps = s.straps := by
  simp only [State.leaveGroup, State.refreshPeriod_straps]; split <;> simp
@[simp] theorem State.leaveGroup_free (c : Fin 8) (p : Nat) (s : State) : (s.leaveGroup c p).free = s.free := by
  simp only [State.leaveGroup, State.refreshPeriod_free]; split <;> simp
@[simp] theorem State.leaveGroup_mtu (c : Fin 8) (p : Nat) (s : State) : (s.leaveGroup c p).mtu = s.mtu := by
  simp only [State.leaveGroup, State.refreshPeriod_mtu]; split <;> simp
@[simp] theorem State.leaveGroup_prb (c : Fin 8) (p : Nat) (s : State) : (s.leaveGroup c p).prb = s.prb := by
  simp only [State.leaveGroup, State.refreshPeriod_prb]; split <;> simp
@[simp] theorem State.leaveGroup_svw (c : Fin 8) (p : Nat) (s : State) : (s.leaveGroup c p).svw = s.svw := by
  simp only [State.leaveGroup, State.refreshPeriod_svw]; split <;> simp
@[simp] theorem State.leaveGroup_ptk (c : Fin 8) (p : Nat) (s : State) : (s.leaveGroup c p).ptk = s.ptk := by
  simp only [State.leaveGroup, State.refreshPeriod_ptk]; split <;> simp
@[simp] theorem State.leaveGroup_lau (c : Fin 8) (p : Nat) (s : State) : (s.leaveGroup c p).lau = s.lau := by
  simp only [State.leaveGroup, State.refreshPeriod_lau]; split <;> simp
@[simp] theorem State.leaveGroup_bgu (c : Fin 8) (p : Nat) (s : State) : (s.leaveGroup c p).bgu = s.bgu := by
  simp only [State.leaveGroup, State.refreshPeriod_bgu]; split <;> simp
@[simp] theorem State.leaveGroup_prt (c : Fin 8) (p : Nat) (s : State) : (s.leaveGroup c p).prt = s.prt := by
  simp only [State.leaveGroup, State.refreshPeriod_prt]; split <;> simp

/-! `State.joinGroup` -/

@[simp] theorem State.joinGroup_pending (c : Fin 8) (p : Nat) (s : State) : (s.joinGroup c p).pending = s.pending := by
  simp only [State.joinGroup]; split <;> simp
@[simp] theorem State.joinGroup_clock (c : Fin 8) (p : Nat) (s : State) : (s.joinGroup c p).clock = s.clock := by
  simp only [State.joinGroup]; split <;> simp
@[simp] theorem State.joinGroup_inReset (c : Fin 8) (p : Nat) (s : State) : (s.joinGroup c p).inReset = s.inReset := by
  simp only [State.joinGroup]; split <;> simp
@[simp] theorem State.joinGroup_supplyWasLow (c : Fin 8) (p : Nat) (s : State) : (s.joinGroup c p).supplyWasLow = s.supplyWasLow := by
  simp only [State.joinGroup]; split <;> simp
@[simp] theorem State.joinGroup_cause (c : Fin 8) (p : Nat) (s : State) : (s.joinGroup c p).cause = s.cause := by
  simp only [State.joinGroup]; split <;> simp
@[simp] theorem State.joinGroup_straps (c : Fin 8) (p : Nat) (s : State) : (s.joinGroup c p).straps = s.straps := by
  simp only [State.joinGroup]; split <;> simp
@[simp] theorem State.joinGroup_free (c : Fin 8) (p : Nat) (s : State) : (s.joinGroup c p).free = s.free := by
  simp only [State.joinGroup]; split <;> simp
@[simp] theorem State.joinGroup_mtu (c : Fin 8) (p : Nat) (s : State) : (s.joinGroup c p).mtu = s.mtu := by
  simp only [State.joinGroup]; split <;> simp
@[simp] theorem State.joinGroup_prb (c : Fin 8) (p : Nat) (s : State) : (s.joinGroup c p).prb = s.prb := by
  simp only [State.joinGroup]; split <;> simp
@[simp] theorem State.joinGroup_svw (c : Fin 8) (p : Nat) (s : State) : (s.joinGroup c p).svw = s.svw := by
  simp only [State.joinGroup]; split <;> simp
@[simp] theorem State.joinGroup_ptk (c : Fin 8) (p : Nat) (s : State) : (s.joinGroup c p).ptk = s.ptk := by
  simp only [State.joinGroup]; split <;> simp
@[simp] theorem State.joinGroup_lau (c : Fin 8) (p : Nat) (s : State) : (s.joinGroup c p).lau = s.lau := by
  simp only [State.joinGroup]; split <;> simp
@[simp] theorem State.joinGroup_bgu (c : Fin 8) (p : Nat) (s : State) : (s.joinGroup c p).bgu = s.bgu := by
  simp only [State.joinGroup]; split <;> simp
@[simp] theorem State.joinGroup_prt (c : Fin 8) (p : Nat) (s : State) : (s.joinGroup c p).prt = s.prt := by
  simp only [State.joinGroup]; split <;> simp

/-! `State.targetZero` -/

@[simp] theorem State.targetZero_pending (p : Nat) (s : State) : (s.targetZero p).pending = s.pending := by
  simp [State.targetZero]
@[simp] theorem State.targetZero_clock (p : Nat) (s : State) : (s.targetZero p).clock = s.clock := by
  simp [State.targetZero]
@[simp] theorem State.targetZero_inReset (p : Nat) (s : State) : (s.targetZero p).inReset = s.inReset := by
  simp [State.targetZero]
@[simp] theorem State.targetZero_supplyWasLow (p : Nat) (s : State) : (s.targetZero p).supplyWasLow = s.supplyWasLow := by
  simp [State.targetZero]
@[simp] theorem State.targetZero_cause (p : Nat) (s : State) : (s.targetZero p).cause = s.cause := by
  simp [State.targetZero]
@[simp] theorem State.targetZero_straps (p : Nat) (s : State) : (s.targetZero p).straps = s.straps := by
  simp [State.targetZero]
@[simp] theorem State.targetZero_free (p : Nat) (s : State) : (s.targetZero p).free = s.free := by
  simp [State.targetZero]
@[simp] theorem State.targetZero_mtu (p : Nat) (s : State) : (s.targetZero p).mtu = s.mtu := by
  simp [State.targetZero]
@[simp] theorem State.targetZero_prb (p : Nat) (s : State) : (s.targetZero p).prb = s.prb := by
  simp [State.targetZero]
@[simp] theorem State.targetZero_tbi (p : Nat) (s : State) : (s.targetZero p).tbi = s.tbi := by
  simp [State.targetZero]
@[simp] theorem State.targetZero_svw (p : Nat) (s : State) : (s.targetZero p).svw = s.svw := by
  simp [State.targetZero]
@[simp] theorem State.targetZero_ptk (p : Nat) (s : State) : (s.targetZero p).ptk = s.ptk := by
  simp [State.targetZero]
@[simp] theorem State.targetZero_lau (p : Nat) (s : State) : (s.targetZero p).lau = s.lau := by
  simp [State.targetZero]
@[simp] theorem State.targetZero_bgu (p : Nat) (s : State) : (s.targetZero p).bgu = s.bgu := by
  simp [State.targetZero]
@[simp] theorem State.targetZero_prt (p : Nat) (s : State) : (s.targetZero p).prt = s.prt := by
  simp [State.targetZero]

/-! `State.driveStop` -/

@[simp] theorem State.driveStop_pending (s : State) : (s.driveStop).pending = s.pending := by
  simp only [State.driveStop, State.refreshPeriod_pending]; exact eachOfEight_keeps (fun s => s.pending) (fun c s => State.leaveDriveMember_pending c s) s
@[simp] theorem State.driveStop_clock (s : State) : (s.driveStop).clock = s.clock := by
  simp only [State.driveStop, State.refreshPeriod_clock]; exact eachOfEight_keeps (fun s => s.clock) (fun c s => State.leaveDriveMember_clock c s) s
@[simp] theorem State.driveStop_inReset (s : State) : (s.driveStop).inReset = s.inReset := by
  simp only [State.driveStop, State.refreshPeriod_inReset]; exact eachOfEight_keeps (fun s => s.inReset) (fun c s => State.leaveDriveMember_inReset c s) s
@[simp] theorem State.driveStop_supplyWasLow (s : State) : (s.driveStop).supplyWasLow = s.supplyWasLow := by
  simp only [State.driveStop, State.refreshPeriod_supplyWasLow]; exact eachOfEight_keeps (fun s => s.supplyWasLow) (fun c s => State.leaveDriveMember_supplyWasLow c s) s
@[simp] theorem State.driveStop_cause (s : State) : (s.driveStop).cause = s.cause := by
  simp only [State.driveStop, State.refreshPeriod_cause]; exact eachOfEight_keeps (fun s => s.cause) (fun c s => State.leaveDriveMember_cause c s) s
@[simp] theorem State.driveStop_straps (s : State) : (s.driveStop).straps = s.straps := by
  simp only [State.driveStop, State.refreshPeriod_straps]; exact eachOfEight_keeps (fun s => s.straps) (fun c s => State.leaveDriveMember_straps c s) s
@[simp] theorem State.driveStop_free (s : State) : (s.driveStop).free = s.free := by
  simp only [State.driveStop, State.refreshPeriod_free]; exact eachOfEight_keeps (fun s => s.free) (fun c s => State.leaveDriveMember_free c s) s
@[simp] theorem State.driveStop_mtu (s : State) : (s.driveStop).mtu = s.mtu := by
  simp only [State.driveStop, State.refreshPeriod_mtu]; exact eachOfEight_keeps (fun s => s.mtu) (fun c s => State.leaveDriveMember_mtu c s) s
@[simp] theorem State.driveStop_prb (s : State) : (s.driveStop).prb = s.prb := by
  simp only [State.driveStop, State.refreshPeriod_prb]; exact eachOfEight_keeps (fun s => s.prb) (fun c s => State.leaveDriveMember_prb c s) s
@[simp] theorem State.driveStop_svw (s : State) : (s.driveStop).svw = s.svw := by
  simp only [State.driveStop, State.refreshPeriod_svw]; exact eachOfEight_keeps (fun s => s.svw) (fun c s => State.leaveDriveMember_svw c s) s
@[simp] theorem State.driveStop_ptk (s : State) : (s.driveStop).ptk = s.ptk := by
  simp only [State.driveStop, State.refreshPeriod_ptk]; exact eachOfEight_keeps (fun s => s.ptk) (fun c s => State.leaveDriveMember_ptk c s) s
@[simp] theorem State.driveStop_lau (s : State) : (s.driveStop).lau = s.lau := by
  simp only [State.driveStop, State.refreshPeriod_lau]; exact eachOfEight_keeps (fun s => s.lau) (fun c s => State.leaveDriveMember_lau c s) s
@[simp] theorem State.driveStop_bgu (s : State) : (s.driveStop).bgu = s.bgu := by
  simp only [State.driveStop, State.refreshPeriod_bgu]; exact eachOfEight_keeps (fun s => s.bgu) (fun c s => State.leaveDriveMember_bgu c s) s
@[simp] theorem State.driveStop_prt (s : State) : (s.driveStop).prt = s.prt := by
  simp only [State.driveStop, State.refreshPeriod_prt]; exact eachOfEight_keeps (fun s => s.prt) (fun c s => State.leaveDriveMember_prt c s) s

/-! `State.driveEnd` -/

@[simp] theorem State.driveEnd_pending (s : State) : (s.driveEnd).pending = s.pending := by
  simp [State.driveEnd]
@[simp] theorem State.driveEnd_clock (s : State) : (s.driveEnd).clock = s.clock := by
  simp [State.driveEnd]
@[simp] theorem State.driveEnd_inReset (s : State) : (s.driveEnd).inReset = s.inReset := by
  simp [State.driveEnd]
@[simp] theorem State.driveEnd_supplyWasLow (s : State) : (s.driveEnd).supplyWasLow = s.supplyWasLow := by
  simp [State.driveEnd]
@[simp] theorem State.driveEnd_cause (s : State) : (s.driveEnd).cause = s.cause := by
  simp [State.driveEnd]
@[simp] theorem State.driveEnd_straps (s : State) : (s.driveEnd).straps = s.straps := by
  simp [State.driveEnd]
@[simp] theorem State.driveEnd_free (s : State) : (s.driveEnd).free = s.free := by
  simp [State.driveEnd]
@[simp] theorem State.driveEnd_mtu (s : State) : (s.driveEnd).mtu = s.mtu := by
  simp [State.driveEnd]
@[simp] theorem State.driveEnd_prb (s : State) : (s.driveEnd).prb = s.prb := by
  simp [State.driveEnd]
@[simp] theorem State.driveEnd_svw (s : State) : (s.driveEnd).svw = s.svw := by
  simp [State.driveEnd]
@[simp] theorem State.driveEnd_ptk (s : State) : (s.driveEnd).ptk = s.ptk := by
  simp [State.driveEnd]
@[simp] theorem State.driveEnd_lau (s : State) : (s.driveEnd).lau = s.lau := by
  simp [State.driveEnd]
@[simp] theorem State.driveEnd_bgu (s : State) : (s.driveEnd).bgu = s.bgu := by
  simp [State.driveEnd]
@[simp] theorem State.driveEnd_prt (s : State) : (s.driveEnd).prt = s.prt := by
  simp [State.driveEnd]

/-! `State.forceZero` -/

@[simp] theorem State.forceZero_pending (p : Nat) (s : State) : (s.forceZero p).pending = s.pending := by
  simp only [State.forceZero]; split <;> simp
@[simp] theorem State.forceZero_clock (p : Nat) (s : State) : (s.forceZero p).clock = s.clock := by
  simp only [State.forceZero]; split <;> simp
@[simp] theorem State.forceZero_inReset (p : Nat) (s : State) : (s.forceZero p).inReset = s.inReset := by
  simp only [State.forceZero]; split <;> simp
@[simp] theorem State.forceZero_supplyWasLow (p : Nat) (s : State) : (s.forceZero p).supplyWasLow = s.supplyWasLow := by
  simp only [State.forceZero]; split <;> simp
@[simp] theorem State.forceZero_cause (p : Nat) (s : State) : (s.forceZero p).cause = s.cause := by
  simp only [State.forceZero]; split <;> simp
@[simp] theorem State.forceZero_straps (p : Nat) (s : State) : (s.forceZero p).straps = s.straps := by
  simp only [State.forceZero]; split <;> simp
@[simp] theorem State.forceZero_free (p : Nat) (s : State) : (s.forceZero p).free = s.free := by
  simp only [State.forceZero]; split <;> simp
@[simp] theorem State.forceZero_mtu (p : Nat) (s : State) : (s.forceZero p).mtu = s.mtu := by
  simp only [State.forceZero]; split <;> simp
@[simp] theorem State.forceZero_prb (p : Nat) (s : State) : (s.forceZero p).prb = s.prb := by
  simp only [State.forceZero]; split <;> simp
@[simp] theorem State.forceZero_tbi (p : Nat) (s : State) : (s.forceZero p).tbi = s.tbi := by
  simp only [State.forceZero]; split <;> simp
@[simp] theorem State.forceZero_svw (p : Nat) (s : State) : (s.forceZero p).svw = s.svw := by
  simp only [State.forceZero]; split <;> simp
@[simp] theorem State.forceZero_ptk (p : Nat) (s : State) : (s.forceZero p).ptk = s.ptk := by
  simp only [State.forceZero]; split <;> simp
@[simp] theorem State.forceZero_bgu (p : Nat) (s : State) : (s.forceZero p).bgu = s.bgu := by
  simp only [State.forceZero]; split <;> simp
@[simp] theorem State.forceZero_prt (p : Nat) (s : State) : (s.forceZero p).prt = s.prt := by
  simp only [State.forceZero]; split <;> simp

/-! `State.forceZeroAll` -/

@[simp] theorem State.forceZeroAll_pending (s : State) : (s.forceZeroAll).pending = s.pending := by
  exact foldl_keeps (fun s => s.pending) (fun p s => State.forceZero_pending p s) _ s
@[simp] theorem State.forceZeroAll_clock (s : State) : (s.forceZeroAll).clock = s.clock := by
  exact foldl_keeps (fun s => s.clock) (fun p s => State.forceZero_clock p s) _ s
@[simp] theorem State.forceZeroAll_inReset (s : State) : (s.forceZeroAll).inReset = s.inReset := by
  exact foldl_keeps (fun s => s.inReset) (fun p s => State.forceZero_inReset p s) _ s
@[simp] theorem State.forceZeroAll_supplyWasLow (s : State) : (s.forceZeroAll).supplyWasLow = s.supplyWasLow := by
  exact foldl_keeps (fun s => s.supplyWasLow) (fun p s => State.forceZero_supplyWasLow p s) _ s
@[simp] theorem State.forceZeroAll_cause (s : State) : (s.forceZeroAll).cause = s.cause := by
  exact foldl_keeps (fun s => s.cause) (fun p s => State.forceZero_cause p s) _ s
@[simp] theorem State.forceZeroAll_straps (s : State) : (s.forceZeroAll).straps = s.straps := by
  exact foldl_keeps (fun s => s.straps) (fun p s => State.forceZero_straps p s) _ s
@[simp] theorem State.forceZeroAll_free (s : State) : (s.forceZeroAll).free = s.free := by
  exact foldl_keeps (fun s => s.free) (fun p s => State.forceZero_free p s) _ s
@[simp] theorem State.forceZeroAll_mtu (s : State) : (s.forceZeroAll).mtu = s.mtu := by
  exact foldl_keeps (fun s => s.mtu) (fun p s => State.forceZero_mtu p s) _ s
@[simp] theorem State.forceZeroAll_prb (s : State) : (s.forceZeroAll).prb = s.prb := by
  exact foldl_keeps (fun s => s.prb) (fun p s => State.forceZero_prb p s) _ s
@[simp] theorem State.forceZeroAll_tbi (s : State) : (s.forceZeroAll).tbi = s.tbi := by
  exact foldl_keeps (fun s => s.tbi) (fun p s => State.forceZero_tbi p s) _ s
@[simp] theorem State.forceZeroAll_svw (s : State) : (s.forceZeroAll).svw = s.svw := by
  exact foldl_keeps (fun s => s.svw) (fun p s => State.forceZero_svw p s) _ s
@[simp] theorem State.forceZeroAll_ptk (s : State) : (s.forceZeroAll).ptk = s.ptk := by
  exact foldl_keeps (fun s => s.ptk) (fun p s => State.forceZero_ptk p s) _ s
@[simp] theorem State.forceZeroAll_bgu (s : State) : (s.forceZeroAll).bgu = s.bgu := by
  exact foldl_keeps (fun s => s.bgu) (fun p s => State.forceZero_bgu p s) _ s
@[simp] theorem State.forceZeroAll_prt (s : State) : (s.forceZeroAll).prt = s.prt := by
  exact foldl_keeps (fun s => s.prt) (fun p s => State.forceZero_prt p s) _ s

/-! `State.claimZero` -/

@[simp] theorem State.claimZero_pending (s : State) : (s.claimZero).pending = s.pending := by
  exact foldl_keeps (fun s => s.pending) (fun p s => State.targetZero_pending p s) _ _
@[simp] theorem State.claimZero_clock (s : State) : (s.claimZero).clock = s.clock := by
  exact foldl_keeps (fun s => s.clock) (fun p s => State.targetZero_clock p s) _ _
@[simp] theorem State.claimZero_inReset (s : State) : (s.claimZero).inReset = s.inReset := by
  exact foldl_keeps (fun s => s.inReset) (fun p s => State.targetZero_inReset p s) _ _
@[simp] theorem State.claimZero_supplyWasLow (s : State) : (s.claimZero).supplyWasLow = s.supplyWasLow := by
  exact foldl_keeps (fun s => s.supplyWasLow) (fun p s => State.targetZero_supplyWasLow p s) _ _
@[simp] theorem State.claimZero_cause (s : State) : (s.claimZero).cause = s.cause := by
  exact foldl_keeps (fun s => s.cause) (fun p s => State.targetZero_cause p s) _ _
@[simp] theorem State.claimZero_straps (s : State) : (s.claimZero).straps = s.straps := by
  exact foldl_keeps (fun s => s.straps) (fun p s => State.targetZero_straps p s) _ _
@[simp] theorem State.claimZero_free (s : State) : (s.claimZero).free = s.free := by
  exact foldl_keeps (fun s => s.free) (fun p s => State.targetZero_free p s) _ _
@[simp] theorem State.claimZero_mtu (s : State) : (s.claimZero).mtu = s.mtu := by
  exact foldl_keeps (fun s => s.mtu) (fun p s => State.targetZero_mtu p s) _ _
@[simp] theorem State.claimZero_prb (s : State) : (s.claimZero).prb = s.prb := by
  exact foldl_keeps (fun s => s.prb) (fun p s => State.targetZero_prb p s) _ _
@[simp] theorem State.claimZero_tbi (s : State) : (s.claimZero).tbi = s.tbi := by
  exact foldl_keeps (fun s => s.tbi) (fun p s => State.targetZero_tbi p s) _ _
@[simp] theorem State.claimZero_svw (s : State) : (s.claimZero).svw = s.svw := by
  exact foldl_keeps (fun s => s.svw) (fun p s => State.targetZero_svw p s) _ _
@[simp] theorem State.claimZero_ptk (s : State) : (s.claimZero).ptk = s.ptk := by
  exact foldl_keeps (fun s => s.ptk) (fun p s => State.targetZero_ptk p s) _ _
@[simp] theorem State.claimZero_prt (s : State) : (s.claimZero).prt = s.prt := by
  exact foldl_keeps (fun s => s.prt) (fun p s => State.targetZero_prt p s) _ _

/-! `State.putRecord` -/

@[simp] theorem State.putRecord_pending (r : PanRecord) (s : State) : (s.putRecord r).pending = s.pending := by
  simp only [State.putRecord]; repeat' split
  all_goals simp
@[simp] theorem State.putRecord_clock (r : PanRecord) (s : State) : (s.putRecord r).clock = s.clock := by
  simp only [State.putRecord]; repeat' split
  all_goals simp
@[simp] theorem State.putRecord_inReset (r : PanRecord) (s : State) : (s.putRecord r).inReset = s.inReset := by
  simp only [State.putRecord]; repeat' split
  all_goals simp
@[simp] theorem State.putRecord_supplyWasLow (r : PanRecord) (s : State) : (s.putRecord r).supplyWasLow = s.supplyWasLow := by
  simp only [State.putRecord]; repeat' split
  all_goals simp
@[simp] theorem State.putRecord_cause (r : PanRecord) (s : State) : (s.putRecord r).cause = s.cause := by
  simp only [State.putRecord]; repeat' split
  all_goals simp
@[simp] theorem State.putRecord_straps (r : PanRecord) (s : State) : (s.putRecord r).straps = s.straps := by
  simp only [State.putRecord]; repeat' split
  all_goals simp
@[simp] theorem State.putRecord_free (r : PanRecord) (s : State) : (s.putRecord r).free = s.free := by
  simp only [State.putRecord]; repeat' split
  all_goals simp
@[simp] theorem State.putRecord_mtu (r : PanRecord) (s : State) : (s.putRecord r).mtu = s.mtu := by
  simp only [State.putRecord]; repeat' split
  all_goals simp
@[simp] theorem State.putRecord_prb (r : PanRecord) (s : State) : (s.putRecord r).prb = s.prb := by
  simp only [State.putRecord]; repeat' split
  all_goals simp
@[simp] theorem State.putRecord_tbi (r : PanRecord) (s : State) : (s.putRecord r).tbi = s.tbi := by
  simp only [State.putRecord]; repeat' split
  all_goals simp
@[simp] theorem State.putRecord_svw (r : PanRecord) (s : State) : (s.putRecord r).svw = s.svw := by
  simp only [State.putRecord]; repeat' split
  all_goals simp
@[simp] theorem State.putRecord_bgu (r : PanRecord) (s : State) : (s.putRecord r).bgu = s.bgu := by
  simp only [State.putRecord]; repeat' split
  all_goals simp
@[simp] theorem State.putRecord_prt (r : PanRecord) (s : State) : (s.putRecord r).prt = s.prt := by
  simp only [State.putRecord]; repeat' split
  all_goals simp

/-! `State.dropRecord` -/

@[simp] theorem State.dropRecord_pending (p : Nat) (s : State) : (s.dropRecord p).pending = s.pending := by
  unfold State.dropRecord; split <;> simp
@[simp] theorem State.dropRecord_clock (p : Nat) (s : State) : (s.dropRecord p).clock = s.clock := by
  unfold State.dropRecord; split <;> simp
@[simp] theorem State.dropRecord_inReset (p : Nat) (s : State) : (s.dropRecord p).inReset = s.inReset := by
  unfold State.dropRecord; split <;> simp
@[simp] theorem State.dropRecord_supplyWasLow (p : Nat) (s : State) : (s.dropRecord p).supplyWasLow = s.supplyWasLow := by
  unfold State.dropRecord; split <;> simp
@[simp] theorem State.dropRecord_cause (p : Nat) (s : State) : (s.dropRecord p).cause = s.cause := by
  unfold State.dropRecord; split <;> simp
@[simp] theorem State.dropRecord_straps (p : Nat) (s : State) : (s.dropRecord p).straps = s.straps := by
  unfold State.dropRecord; split <;> simp
@[simp] theorem State.dropRecord_free (p : Nat) (s : State) : (s.dropRecord p).free = s.free := by
  unfold State.dropRecord; split <;> simp
@[simp] theorem State.dropRecord_mtu (p : Nat) (s : State) : (s.dropRecord p).mtu = s.mtu := by
  unfold State.dropRecord; split <;> simp
@[simp] theorem State.dropRecord_prb (p : Nat) (s : State) : (s.dropRecord p).prb = s.prb := by
  unfold State.dropRecord; split <;> simp
@[simp] theorem State.dropRecord_tbi (p : Nat) (s : State) : (s.dropRecord p).tbi = s.tbi := by
  unfold State.dropRecord; split <;> simp
@[simp] theorem State.dropRecord_svw (p : Nat) (s : State) : (s.dropRecord p).svw = s.svw := by
  unfold State.dropRecord; split <;> simp
@[simp] theorem State.dropRecord_bgu (p : Nat) (s : State) : (s.dropRecord p).bgu = s.bgu := by
  unfold State.dropRecord; split <;> simp
@[simp] theorem State.dropRecord_prt (p : Nat) (s : State) : (s.dropRecord p).prt = s.prt := by
  unfold State.dropRecord; split <;> simp

/-! `State.storeRecord` -/

@[simp] theorem State.storeRecord_pending (r : PanRecord) (s : State) : (s.storeRecord r).pending = s.pending := by
  unfold State.storeRecord; repeat' split
  all_goals simp
@[simp] theorem State.storeRecord_clock (r : PanRecord) (s : State) : (s.storeRecord r).clock = s.clock := by
  unfold State.storeRecord; repeat' split
  all_goals simp
@[simp] theorem State.storeRecord_inReset (r : PanRecord) (s : State) : (s.storeRecord r).inReset = s.inReset := by
  unfold State.storeRecord; repeat' split
  all_goals simp
@[simp] theorem State.storeRecord_supplyWasLow (r : PanRecord) (s : State) : (s.storeRecord r).supplyWasLow = s.supplyWasLow := by
  unfold State.storeRecord; repeat' split
  all_goals simp
@[simp] theorem State.storeRecord_cause (r : PanRecord) (s : State) : (s.storeRecord r).cause = s.cause := by
  unfold State.storeRecord; repeat' split
  all_goals simp
@[simp] theorem State.storeRecord_straps (r : PanRecord) (s : State) : (s.storeRecord r).straps = s.straps := by
  unfold State.storeRecord; repeat' split
  all_goals simp
@[simp] theorem State.storeRecord_free (r : PanRecord) (s : State) : (s.storeRecord r).free = s.free := by
  unfold State.storeRecord; repeat' split
  all_goals simp
@[simp] theorem State.storeRecord_mtu (r : PanRecord) (s : State) : (s.storeRecord r).mtu = s.mtu := by
  unfold State.storeRecord; repeat' split
  all_goals simp
@[simp] theorem State.storeRecord_prb (r : PanRecord) (s : State) : (s.storeRecord r).prb = s.prb := by
  unfold State.storeRecord; repeat' split
  all_goals simp
@[simp] theorem State.storeRecord_tbi (r : PanRecord) (s : State) : (s.storeRecord r).tbi = s.tbi := by
  unfold State.storeRecord; repeat' split
  all_goals simp
@[simp] theorem State.storeRecord_svw (r : PanRecord) (s : State) : (s.storeRecord r).svw = s.svw := by
  unfold State.storeRecord; repeat' split
  all_goals simp
@[simp] theorem State.storeRecord_bgu (r : PanRecord) (s : State) : (s.storeRecord r).bgu = s.bgu := by
  unfold State.storeRecord; repeat' split
  all_goals simp
@[simp] theorem State.storeRecord_prt (r : PanRecord) (s : State) : (s.storeRecord r).prt = s.prt := by
  unfold State.storeRecord; repeat' split
  all_goals simp

/-! `State.dropIfExpired` -/

@[simp] theorem State.dropIfExpired_pending (p : Nat) (s : State) : (s.dropIfExpired p).pending = s.pending := by
  unfold State.dropIfExpired; repeat' split
  all_goals simp
@[simp] theorem State.dropIfExpired_clock (p : Nat) (s : State) : (s.dropIfExpired p).clock = s.clock := by
  unfold State.dropIfExpired; repeat' split
  all_goals simp
@[simp] theorem State.dropIfExpired_inReset (p : Nat) (s : State) : (s.dropIfExpired p).inReset = s.inReset := by
  unfold State.dropIfExpired; repeat' split
  all_goals simp
@[simp] theorem State.dropIfExpired_supplyWasLow (p : Nat) (s : State) : (s.dropIfExpired p).supplyWasLow = s.supplyWasLow := by
  unfold State.dropIfExpired; repeat' split
  all_goals simp
@[simp] theorem State.dropIfExpired_cause (p : Nat) (s : State) : (s.dropIfExpired p).cause = s.cause := by
  unfold State.dropIfExpired; repeat' split
  all_goals simp
@[simp] theorem State.dropIfExpired_straps (p : Nat) (s : State) : (s.dropIfExpired p).straps = s.straps := by
  unfold State.dropIfExpired; repeat' split
  all_goals simp
@[simp] theorem State.dropIfExpired_free (p : Nat) (s : State) : (s.dropIfExpired p).free = s.free := by
  unfold State.dropIfExpired; repeat' split
  all_goals simp
@[simp] theorem State.dropIfExpired_mtu (p : Nat) (s : State) : (s.dropIfExpired p).mtu = s.mtu := by
  unfold State.dropIfExpired; repeat' split
  all_goals simp
@[simp] theorem State.dropIfExpired_prb (p : Nat) (s : State) : (s.dropIfExpired p).prb = s.prb := by
  unfold State.dropIfExpired; repeat' split
  all_goals simp
@[simp] theorem State.dropIfExpired_tbi (p : Nat) (s : State) : (s.dropIfExpired p).tbi = s.tbi := by
  unfold State.dropIfExpired; repeat' split
  all_goals simp
@[simp] theorem State.dropIfExpired_svw (p : Nat) (s : State) : (s.dropIfExpired p).svw = s.svw := by
  unfold State.dropIfExpired; repeat' split
  all_goals simp
@[simp] theorem State.dropIfExpired_bgu (p : Nat) (s : State) : (s.dropIfExpired p).bgu = s.bgu := by
  unfold State.dropIfExpired; repeat' split
  all_goals simp
@[simp] theorem State.dropIfExpired_prt (p : Nat) (s : State) : (s.dropIfExpired p).prt = s.prt := by
  unfold State.dropIfExpired; repeat' split
  all_goals simp

/-! `State.requestPan` -/

@[simp] theorem State.requestPan_pending (p : Nat) (s : State) : (s.requestPan p).pending = s.pending := by
  unfold State.requestPan; repeat' split
  all_goals simp
@[simp] theorem State.requestPan_clock (p : Nat) (s : State) : (s.requestPan p).clock = s.clock := by
  unfold State.requestPan; repeat' split
  all_goals simp
@[simp] theorem State.requestPan_inReset (p : Nat) (s : State) : (s.requestPan p).inReset = s.inReset := by
  unfold State.requestPan; repeat' split
  all_goals simp
@[simp] theorem State.requestPan_supplyWasLow (p : Nat) (s : State) : (s.requestPan p).supplyWasLow = s.supplyWasLow := by
  unfold State.requestPan; repeat' split
  all_goals simp
@[simp] theorem State.requestPan_cause (p : Nat) (s : State) : (s.requestPan p).cause = s.cause := by
  unfold State.requestPan; repeat' split
  all_goals simp
@[simp] theorem State.requestPan_straps (p : Nat) (s : State) : (s.requestPan p).straps = s.straps := by
  unfold State.requestPan; repeat' split
  all_goals simp
@[simp] theorem State.requestPan_free (p : Nat) (s : State) : (s.requestPan p).free = s.free := by
  unfold State.requestPan; repeat' split
  all_goals simp
@[simp] theorem State.requestPan_mtu (p : Nat) (s : State) : (s.requestPan p).mtu = s.mtu := by
  unfold State.requestPan; repeat' split
  all_goals simp
@[simp] theorem State.requestPan_prb (p : Nat) (s : State) : (s.requestPan p).prb = s.prb := by
  unfold State.requestPan; repeat' split
  all_goals simp
@[simp] theorem State.requestPan_svw (p : Nat) (s : State) : (s.requestPan p).svw = s.svw := by
  unfold State.requestPan; repeat' split
  all_goals simp
@[simp] theorem State.requestPan_lau (p : Nat) (s : State) : (s.requestPan p).lau = s.lau := by
  unfold State.requestPan; repeat' split
  all_goals simp
@[simp] theorem State.requestPan_bgu (p : Nat) (s : State) : (s.requestPan p).bgu = s.bgu := by
  unfold State.requestPan; repeat' split
  all_goals simp
@[simp] theorem State.requestPan_fqu (p : Nat) (s : State) : (s.requestPan p).fqu = s.fqu := by
  unfold State.requestPan; repeat' split
  all_goals simp
@[simp] theorem State.requestPan_drv (p : Nat) (s : State) : (s.requestPan p).drv = s.drv := by
  unfold State.requestPan; repeat' split
  all_goals simp
@[simp] theorem State.requestPan_prt (p : Nat) (s : State) : (s.requestPan p).prt = s.prt := by
  unfold State.requestPan; repeat' split
  all_goals simp

/-! `State.panChange` -/

@[simp] theorem State.panChange_pending (p : Nat) (s : State) : (s.panChange p).pending = s.pending := by
  unfold State.panChange; repeat' split
  all_goals simp
@[simp] theorem State.panChange_clock (p : Nat) (s : State) : (s.panChange p).clock = s.clock := by
  unfold State.panChange; repeat' split
  all_goals simp
@[simp] theorem State.panChange_inReset (p : Nat) (s : State) : (s.panChange p).inReset = s.inReset := by
  unfold State.panChange; repeat' split
  all_goals simp
@[simp] theorem State.panChange_supplyWasLow (p : Nat) (s : State) : (s.panChange p).supplyWasLow = s.supplyWasLow := by
  unfold State.panChange; repeat' split
  all_goals simp
@[simp] theorem State.panChange_cause (p : Nat) (s : State) : (s.panChange p).cause = s.cause := by
  unfold State.panChange; repeat' split
  all_goals simp
@[simp] theorem State.panChange_straps (p : Nat) (s : State) : (s.panChange p).straps = s.straps := by
  unfold State.panChange; repeat' split
  all_goals simp
@[simp] theorem State.panChange_free (p : Nat) (s : State) : (s.panChange p).free = s.free := by
  unfold State.panChange; repeat' split
  all_goals simp
@[simp] theorem State.panChange_mtu (p : Nat) (s : State) : (s.panChange p).mtu = s.mtu := by
  unfold State.panChange; repeat' split
  all_goals simp
@[simp] theorem State.panChange_prb (p : Nat) (s : State) : (s.panChange p).prb = s.prb := by
  unfold State.panChange; repeat' split
  all_goals simp
@[simp] theorem State.panChange_svw (p : Nat) (s : State) : (s.panChange p).svw = s.svw := by
  unfold State.panChange; repeat' split
  all_goals simp
@[simp] theorem State.panChange_lau (p : Nat) (s : State) : (s.panChange p).lau = s.lau := by
  unfold State.panChange; repeat' split
  all_goals simp
@[simp] theorem State.panChange_bgu (p : Nat) (s : State) : (s.panChange p).bgu = s.bgu := by
  unfold State.panChange; repeat' split
  all_goals simp
@[simp] theorem State.panChange_fqu (p : Nat) (s : State) : (s.panChange p).fqu = s.fqu := by
  unfold State.panChange; repeat' split
  all_goals simp
@[simp] theorem State.panChange_drv (p : Nat) (s : State) : (s.panChange p).drv = s.drv := by
  unfold State.panChange; repeat' split
  all_goals simp
@[simp] theorem State.panChange_prt (p : Nat) (s : State) : (s.panChange p).prt = s.prt := by
  unfold State.panChange; repeat' split
  all_goals simp

/-! `State.writeHeldLevel` -/

@[simp] theorem State.writeHeldLevel_pending (l p : Nat) (s : State) : (s.writeHeldLevel l p).pending = s.pending := by
  unfold State.writeHeldLevel; repeat' split
  all_goals simp
@[simp] theorem State.writeHeldLevel_clock (l p : Nat) (s : State) : (s.writeHeldLevel l p).clock = s.clock := by
  unfold State.writeHeldLevel; repeat' split
  all_goals simp
@[simp] theorem State.writeHeldLevel_inReset (l p : Nat) (s : State) : (s.writeHeldLevel l p).inReset = s.inReset := by
  unfold State.writeHeldLevel; repeat' split
  all_goals simp
@[simp] theorem State.writeHeldLevel_supplyWasLow (l p : Nat) (s : State) : (s.writeHeldLevel l p).supplyWasLow = s.supplyWasLow := by
  unfold State.writeHeldLevel; repeat' split
  all_goals simp
@[simp] theorem State.writeHeldLevel_cause (l p : Nat) (s : State) : (s.writeHeldLevel l p).cause = s.cause := by
  unfold State.writeHeldLevel; repeat' split
  all_goals simp
@[simp] theorem State.writeHeldLevel_straps (l p : Nat) (s : State) : (s.writeHeldLevel l p).straps = s.straps := by
  unfold State.writeHeldLevel; repeat' split
  all_goals simp
@[simp] theorem State.writeHeldLevel_free (l p : Nat) (s : State) : (s.writeHeldLevel l p).free = s.free := by
  unfold State.writeHeldLevel; repeat' split
  all_goals simp
@[simp] theorem State.writeHeldLevel_mtu (l p : Nat) (s : State) : (s.writeHeldLevel l p).mtu = s.mtu := by
  unfold State.writeHeldLevel; repeat' split
  all_goals simp
@[simp] theorem State.writeHeldLevel_prb (l p : Nat) (s : State) : (s.writeHeldLevel l p).prb = s.prb := by
  unfold State.writeHeldLevel; repeat' split
  all_goals simp
@[simp] theorem State.writeHeldLevel_svw (l p : Nat) (s : State) : (s.writeHeldLevel l p).svw = s.svw := by
  unfold State.writeHeldLevel; repeat' split
  all_goals simp
@[simp] theorem State.writeHeldLevel_bgu (l p : Nat) (s : State) : (s.writeHeldLevel l p).bgu = s.bgu := by
  unfold State.writeHeldLevel; repeat' split
  all_goals simp
@[simp] theorem State.writeHeldLevel_prt (l p : Nat) (s : State) : (s.writeHeldLevel l p).prt = s.prt := by
  unfold State.writeHeldLevel; repeat' split
  all_goals simp

/-! `State.takeLevel` -/

@[simp] theorem State.takeLevel_pending (p l : Nat) (s : State) : (s.takeLevel p l).pending = s.pending := by
  unfold State.takeLevel; split <;> simp
@[simp] theorem State.takeLevel_clock (p l : Nat) (s : State) : (s.takeLevel p l).clock = s.clock := by
  unfold State.takeLevel; split <;> simp
@[simp] theorem State.takeLevel_inReset (p l : Nat) (s : State) : (s.takeLevel p l).inReset = s.inReset := by
  unfold State.takeLevel; split <;> simp
@[simp] theorem State.takeLevel_supplyWasLow (p l : Nat) (s : State) : (s.takeLevel p l).supplyWasLow = s.supplyWasLow := by
  unfold State.takeLevel; split <;> simp
@[simp] theorem State.takeLevel_cause (p l : Nat) (s : State) : (s.takeLevel p l).cause = s.cause := by
  unfold State.takeLevel; split <;> simp
@[simp] theorem State.takeLevel_straps (p l : Nat) (s : State) : (s.takeLevel p l).straps = s.straps := by
  unfold State.takeLevel; split <;> simp
@[simp] theorem State.takeLevel_free (p l : Nat) (s : State) : (s.takeLevel p l).free = s.free := by
  unfold State.takeLevel; split <;> simp
@[simp] theorem State.takeLevel_mtu (p l : Nat) (s : State) : (s.takeLevel p l).mtu = s.mtu := by
  unfold State.takeLevel; split <;> simp
@[simp] theorem State.takeLevel_prb (p l : Nat) (s : State) : (s.takeLevel p l).prb = s.prb := by
  unfold State.takeLevel; split <;> simp
@[simp] theorem State.takeLevel_svw (p l : Nat) (s : State) : (s.takeLevel p l).svw = s.svw := by
  unfold State.takeLevel; split <;> simp
@[simp] theorem State.takeLevel_bgu (p l : Nat) (s : State) : (s.takeLevel p l).bgu = s.bgu := by
  unfold State.takeLevel; split <;> simp
@[simp] theorem State.takeLevel_prt (p l : Nat) (s : State) : (s.takeLevel p l).prt = s.prt := by
  unfold State.takeLevel; split <;> simp

/-! `State.beginFrame` -/

@[simp] theorem State.beginFrame_pending (s : State) : (s.beginFrame).pending = s.pending := by
  unfold State.beginFrame; repeat' split
  all_goals rfl
@[simp] theorem State.beginFrame_clock (s : State) : (s.beginFrame).clock = s.clock := by
  unfold State.beginFrame; repeat' split
  all_goals rfl
@[simp] theorem State.beginFrame_inReset (s : State) : (s.beginFrame).inReset = s.inReset := by
  unfold State.beginFrame; repeat' split
  all_goals rfl
@[simp] theorem State.beginFrame_supplyWasLow (s : State) : (s.beginFrame).supplyWasLow = s.supplyWasLow := by
  unfold State.beginFrame; repeat' split
  all_goals rfl
@[simp] theorem State.beginFrame_cause (s : State) : (s.beginFrame).cause = s.cause := by
  unfold State.beginFrame; repeat' split
  all_goals rfl
@[simp] theorem State.beginFrame_straps (s : State) : (s.beginFrame).straps = s.straps := by
  unfold State.beginFrame; repeat' split
  all_goals rfl
@[simp] theorem State.beginFrame_free (s : State) : (s.beginFrame).free = s.free := by
  unfold State.beginFrame; repeat' split
  all_goals rfl
@[simp] theorem State.beginFrame_mtu (s : State) : (s.beginFrame).mtu = s.mtu := by
  unfold State.beginFrame; repeat' split
  all_goals rfl
@[simp] theorem State.beginFrame_prb (s : State) : (s.beginFrame).prb = s.prb := by
  unfold State.beginFrame; repeat' split
  all_goals rfl
@[simp] theorem State.beginFrame_svw (s : State) : (s.beginFrame).svw = s.svw := by
  unfold State.beginFrame; repeat' split
  all_goals rfl
@[simp] theorem State.beginFrame_ptk (s : State) : (s.beginFrame).ptk = s.ptk := by
  unfold State.beginFrame; repeat' split
  all_goals rfl
@[simp] theorem State.beginFrame_lau (s : State) : (s.beginFrame).lau = s.lau := by
  unfold State.beginFrame; repeat' split
  all_goals rfl
@[simp] theorem State.beginFrame_bgu (s : State) : (s.beginFrame).bgu = s.bgu := by
  unfold State.beginFrame; repeat' split
  all_goals rfl
@[simp] theorem State.beginFrame_fqu (s : State) : (s.beginFrame).fqu = s.fqu := by
  unfold State.beginFrame; repeat' split
  all_goals rfl
@[simp] theorem State.beginFrame_drv (s : State) : (s.beginFrame).drv = s.drv := by
  unfold State.beginFrame; repeat' split
  all_goals rfl
@[simp] theorem State.beginFrame_prt (s : State) : (s.beginFrame).prt = s.prt := by
  unfold State.beginFrame; repeat' split
  all_goals rfl

/-! `State.takeGroup` -/

@[simp] theorem State.takeGroup_pending (g : Group) (s : State) : (s.takeGroup g).pending = s.pending := by
  unfold State.takeGroup; split
  · split <;> simp
  · split
    · simp
    · rw [eachOfEight_keeps (fun s => s.pending) (fun c s => by split <;> simp),
        eachOfEight_keeps (fun s => s.pending) (fun c s => by split <;> simp)]
@[simp] theorem State.takeGroup_clock (g : Group) (s : State) : (s.takeGroup g).clock = s.clock := by
  unfold State.takeGroup; split
  · split <;> simp
  · split
    · simp
    · rw [eachOfEight_keeps (fun s => s.clock) (fun c s => by split <;> simp),
        eachOfEight_keeps (fun s => s.clock) (fun c s => by split <;> simp)]
@[simp] theorem State.takeGroup_inReset (g : Group) (s : State) : (s.takeGroup g).inReset = s.inReset := by
  unfold State.takeGroup; split
  · split <;> simp
  · split
    · simp
    · rw [eachOfEight_keeps (fun s => s.inReset) (fun c s => by split <;> simp),
        eachOfEight_keeps (fun s => s.inReset) (fun c s => by split <;> simp)]
@[simp] theorem State.takeGroup_supplyWasLow (g : Group) (s : State) : (s.takeGroup g).supplyWasLow = s.supplyWasLow := by
  unfold State.takeGroup; split
  · split <;> simp
  · split
    · simp
    · rw [eachOfEight_keeps (fun s => s.supplyWasLow) (fun c s => by split <;> simp),
        eachOfEight_keeps (fun s => s.supplyWasLow) (fun c s => by split <;> simp)]
@[simp] theorem State.takeGroup_cause (g : Group) (s : State) : (s.takeGroup g).cause = s.cause := by
  unfold State.takeGroup; split
  · split <;> simp
  · split
    · simp
    · rw [eachOfEight_keeps (fun s => s.cause) (fun c s => by split <;> simp),
        eachOfEight_keeps (fun s => s.cause) (fun c s => by split <;> simp)]
@[simp] theorem State.takeGroup_straps (g : Group) (s : State) : (s.takeGroup g).straps = s.straps := by
  unfold State.takeGroup; split
  · split <;> simp
  · split
    · simp
    · rw [eachOfEight_keeps (fun s => s.straps) (fun c s => by split <;> simp),
        eachOfEight_keeps (fun s => s.straps) (fun c s => by split <;> simp)]
@[simp] theorem State.takeGroup_free (g : Group) (s : State) : (s.takeGroup g).free = s.free := by
  unfold State.takeGroup; split
  · split <;> simp
  · split
    · simp
    · rw [eachOfEight_keeps (fun s => s.free) (fun c s => by split <;> simp),
        eachOfEight_keeps (fun s => s.free) (fun c s => by split <;> simp)]
@[simp] theorem State.takeGroup_mtu (g : Group) (s : State) : (s.takeGroup g).mtu = s.mtu := by
  unfold State.takeGroup; split
  · split <;> simp
  · split
    · simp
    · rw [eachOfEight_keeps (fun s => s.mtu) (fun c s => by split <;> simp),
        eachOfEight_keeps (fun s => s.mtu) (fun c s => by split <;> simp)]
@[simp] theorem State.takeGroup_prb (g : Group) (s : State) : (s.takeGroup g).prb = s.prb := by
  unfold State.takeGroup; split
  · split <;> simp
  · split
    · simp
    · rw [eachOfEight_keeps (fun s => s.prb) (fun c s => by split <;> simp),
        eachOfEight_keeps (fun s => s.prb) (fun c s => by split <;> simp)]
@[simp] theorem State.takeGroup_svw (g : Group) (s : State) : (s.takeGroup g).svw = s.svw := by
  unfold State.takeGroup; split
  · split <;> simp
  · split
    · simp
    · rw [eachOfEight_keeps (fun s => s.svw) (fun c s => by split <;> simp),
        eachOfEight_keeps (fun s => s.svw) (fun c s => by split <;> simp)]
@[simp] theorem State.takeGroup_ptk (g : Group) (s : State) : (s.takeGroup g).ptk = s.ptk := by
  unfold State.takeGroup; split
  · split <;> simp
  · split
    · simp
    · rw [eachOfEight_keeps (fun s => s.ptk) (fun c s => by split <;> simp),
        eachOfEight_keeps (fun s => s.ptk) (fun c s => by split <;> simp)]
@[simp] theorem State.takeGroup_lau (g : Group) (s : State) : (s.takeGroup g).lau = s.lau := by
  unfold State.takeGroup; split
  · split <;> simp
  · split
    · simp
    · rw [eachOfEight_keeps (fun s => s.lau) (fun c s => by split <;> simp),
        eachOfEight_keeps (fun s => s.lau) (fun c s => by split <;> simp)]
@[simp] theorem State.takeGroup_bgu (g : Group) (s : State) : (s.takeGroup g).bgu = s.bgu := by
  unfold State.takeGroup; split
  · split <;> simp
  · split
    · simp
    · rw [eachOfEight_keeps (fun s => s.bgu) (fun c s => by split <;> simp),
        eachOfEight_keeps (fun s => s.bgu) (fun c s => by split <;> simp)]
@[simp] theorem State.takeGroup_prt (g : Group) (s : State) : (s.takeGroup g).prt = s.prt := by
  unfold State.takeGroup; split
  · split <;> simp
  · split
    · simp
    · rw [eachOfEight_keeps (fun s => s.prt) (fun c s => by split <;> simp),
        eachOfEight_keeps (fun s => s.prt) (fun c s => by split <;> simp)]

/-! `State.takeGroups` -/

@[simp] theorem State.takeGroups_pending (gs : List Group) (s : State) : (s.takeGroups gs).pending = s.pending := by
  unfold State.takeGroups
  rw [foldl_keeps (fun s => s.pending) (fun g s => State.takeGroup_pending g s),
    foldl_keeps (fun s => s.pending) (fun p s => State.targetZero_pending p s)]
@[simp] theorem State.takeGroups_clock (gs : List Group) (s : State) : (s.takeGroups gs).clock = s.clock := by
  unfold State.takeGroups
  rw [foldl_keeps (fun s => s.clock) (fun g s => State.takeGroup_clock g s),
    foldl_keeps (fun s => s.clock) (fun p s => State.targetZero_clock p s)]
@[simp] theorem State.takeGroups_inReset (gs : List Group) (s : State) : (s.takeGroups gs).inReset = s.inReset := by
  unfold State.takeGroups
  rw [foldl_keeps (fun s => s.inReset) (fun g s => State.takeGroup_inReset g s),
    foldl_keeps (fun s => s.inReset) (fun p s => State.targetZero_inReset p s)]
@[simp] theorem State.takeGroups_supplyWasLow (gs : List Group) (s : State) : (s.takeGroups gs).supplyWasLow = s.supplyWasLow := by
  unfold State.takeGroups
  rw [foldl_keeps (fun s => s.supplyWasLow) (fun g s => State.takeGroup_supplyWasLow g s),
    foldl_keeps (fun s => s.supplyWasLow) (fun p s => State.targetZero_supplyWasLow p s)]
@[simp] theorem State.takeGroups_cause (gs : List Group) (s : State) : (s.takeGroups gs).cause = s.cause := by
  unfold State.takeGroups
  rw [foldl_keeps (fun s => s.cause) (fun g s => State.takeGroup_cause g s),
    foldl_keeps (fun s => s.cause) (fun p s => State.targetZero_cause p s)]
@[simp] theorem State.takeGroups_straps (gs : List Group) (s : State) : (s.takeGroups gs).straps = s.straps := by
  unfold State.takeGroups
  rw [foldl_keeps (fun s => s.straps) (fun g s => State.takeGroup_straps g s),
    foldl_keeps (fun s => s.straps) (fun p s => State.targetZero_straps p s)]
@[simp] theorem State.takeGroups_free (gs : List Group) (s : State) : (s.takeGroups gs).free = s.free := by
  unfold State.takeGroups
  rw [foldl_keeps (fun s => s.free) (fun g s => State.takeGroup_free g s),
    foldl_keeps (fun s => s.free) (fun p s => State.targetZero_free p s)]
@[simp] theorem State.takeGroups_mtu (gs : List Group) (s : State) : (s.takeGroups gs).mtu = s.mtu := by
  unfold State.takeGroups
  rw [foldl_keeps (fun s => s.mtu) (fun g s => State.takeGroup_mtu g s),
    foldl_keeps (fun s => s.mtu) (fun p s => State.targetZero_mtu p s)]
@[simp] theorem State.takeGroups_prb (gs : List Group) (s : State) : (s.takeGroups gs).prb = s.prb := by
  unfold State.takeGroups
  rw [foldl_keeps (fun s => s.prb) (fun g s => State.takeGroup_prb g s),
    foldl_keeps (fun s => s.prb) (fun p s => State.targetZero_prb p s)]
@[simp] theorem State.takeGroups_svw (gs : List Group) (s : State) : (s.takeGroups gs).svw = s.svw := by
  unfold State.takeGroups
  rw [foldl_keeps (fun s => s.svw) (fun g s => State.takeGroup_svw g s),
    foldl_keeps (fun s => s.svw) (fun p s => State.targetZero_svw p s)]
@[simp] theorem State.takeGroups_ptk (gs : List Group) (s : State) : (s.takeGroups gs).ptk = s.ptk := by
  unfold State.takeGroups
  rw [foldl_keeps (fun s => s.ptk) (fun g s => State.takeGroup_ptk g s),
    foldl_keeps (fun s => s.ptk) (fun p s => State.targetZero_ptk p s)]
@[simp] theorem State.takeGroups_lau (gs : List Group) (s : State) : (s.takeGroups gs).lau = s.lau := by
  unfold State.takeGroups
  rw [foldl_keeps (fun s => s.lau) (fun g s => State.takeGroup_lau g s),
    foldl_keeps (fun s => s.lau) (fun p s => State.targetZero_lau p s)]
@[simp] theorem State.takeGroups_bgu (gs : List Group) (s : State) : (s.takeGroups gs).bgu = s.bgu := by
  unfold State.takeGroups
  rw [foldl_keeps (fun s => s.bgu) (fun g s => State.takeGroup_bgu g s),
    foldl_keeps (fun s => s.bgu) (fun p s => State.targetZero_bgu p s)]
@[simp] theorem State.takeGroups_prt (gs : List Group) (s : State) : (s.takeGroups gs).prt = s.prt := by
  unfold State.takeGroups
  rw [foldl_keeps (fun s => s.prt) (fun g s => State.takeGroup_prt g s),
    foldl_keeps (fun s => s.prt) (fun p s => State.targetZero_prt p s)]

/-! `State.followDrivability` -/

@[simp] theorem State.followDrivability_pending (was : Option Nat) (c : Fin 8) (s : State) : (s.followDrivability was c).pending = s.pending := by
  have left : ∀ (l : List Nat) (t : State), (l.foldl (fun s id => s.leaveGroup c id) t).pending = t.pending :=
    fun l t => foldl_keeps (fun s => s.pending) (fun p s => State.leaveGroup_pending c p s) l t
  simp only [State.followDrivability, apply_ite (fun t : State => t.pending), State.joinGroup_pending, left, ite_self]
@[simp] theorem State.followDrivability_clock (was : Option Nat) (c : Fin 8) (s : State) : (s.followDrivability was c).clock = s.clock := by
  have left : ∀ (l : List Nat) (t : State), (l.foldl (fun s id => s.leaveGroup c id) t).clock = t.clock :=
    fun l t => foldl_keeps (fun s => s.clock) (fun p s => State.leaveGroup_clock c p s) l t
  simp only [State.followDrivability, apply_ite (fun t : State => t.clock), State.joinGroup_clock, left, ite_self]
@[simp] theorem State.followDrivability_inReset (was : Option Nat) (c : Fin 8) (s : State) : (s.followDrivability was c).inReset = s.inReset := by
  have left : ∀ (l : List Nat) (t : State), (l.foldl (fun s id => s.leaveGroup c id) t).inReset = t.inReset :=
    fun l t => foldl_keeps (fun s => s.inReset) (fun p s => State.leaveGroup_inReset c p s) l t
  simp only [State.followDrivability, apply_ite (fun t : State => t.inReset), State.joinGroup_inReset, left, ite_self]
@[simp] theorem State.followDrivability_supplyWasLow (was : Option Nat) (c : Fin 8) (s : State) : (s.followDrivability was c).supplyWasLow = s.supplyWasLow := by
  have left : ∀ (l : List Nat) (t : State), (l.foldl (fun s id => s.leaveGroup c id) t).supplyWasLow = t.supplyWasLow :=
    fun l t => foldl_keeps (fun s => s.supplyWasLow) (fun p s => State.leaveGroup_supplyWasLow c p s) l t
  simp only [State.followDrivability, apply_ite (fun t : State => t.supplyWasLow), State.joinGroup_supplyWasLow, left, ite_self]
@[simp] theorem State.followDrivability_cause (was : Option Nat) (c : Fin 8) (s : State) : (s.followDrivability was c).cause = s.cause := by
  have left : ∀ (l : List Nat) (t : State), (l.foldl (fun s id => s.leaveGroup c id) t).cause = t.cause :=
    fun l t => foldl_keeps (fun s => s.cause) (fun p s => State.leaveGroup_cause c p s) l t
  simp only [State.followDrivability, apply_ite (fun t : State => t.cause), State.joinGroup_cause, left, ite_self]
@[simp] theorem State.followDrivability_straps (was : Option Nat) (c : Fin 8) (s : State) : (s.followDrivability was c).straps = s.straps := by
  have left : ∀ (l : List Nat) (t : State), (l.foldl (fun s id => s.leaveGroup c id) t).straps = t.straps :=
    fun l t => foldl_keeps (fun s => s.straps) (fun p s => State.leaveGroup_straps c p s) l t
  simp only [State.followDrivability, apply_ite (fun t : State => t.straps), State.joinGroup_straps, left, ite_self]
@[simp] theorem State.followDrivability_free (was : Option Nat) (c : Fin 8) (s : State) : (s.followDrivability was c).free = s.free := by
  have left : ∀ (l : List Nat) (t : State), (l.foldl (fun s id => s.leaveGroup c id) t).free = t.free :=
    fun l t => foldl_keeps (fun s => s.free) (fun p s => State.leaveGroup_free c p s) l t
  simp only [State.followDrivability, apply_ite (fun t : State => t.free), State.joinGroup_free, left, ite_self]
@[simp] theorem State.followDrivability_mtu (was : Option Nat) (c : Fin 8) (s : State) : (s.followDrivability was c).mtu = s.mtu := by
  have left : ∀ (l : List Nat) (t : State), (l.foldl (fun s id => s.leaveGroup c id) t).mtu = t.mtu :=
    fun l t => foldl_keeps (fun s => s.mtu) (fun p s => State.leaveGroup_mtu c p s) l t
  simp only [State.followDrivability, apply_ite (fun t : State => t.mtu), State.joinGroup_mtu, left, ite_self]
@[simp] theorem State.followDrivability_prb (was : Option Nat) (c : Fin 8) (s : State) : (s.followDrivability was c).prb = s.prb := by
  have left : ∀ (l : List Nat) (t : State), (l.foldl (fun s id => s.leaveGroup c id) t).prb = t.prb :=
    fun l t => foldl_keeps (fun s => s.prb) (fun p s => State.leaveGroup_prb c p s) l t
  simp only [State.followDrivability, apply_ite (fun t : State => t.prb), State.joinGroup_prb, left, ite_self]
@[simp] theorem State.followDrivability_svw (was : Option Nat) (c : Fin 8) (s : State) : (s.followDrivability was c).svw = s.svw := by
  have left : ∀ (l : List Nat) (t : State), (l.foldl (fun s id => s.leaveGroup c id) t).svw = t.svw :=
    fun l t => foldl_keeps (fun s => s.svw) (fun p s => State.leaveGroup_svw c p s) l t
  simp only [State.followDrivability, apply_ite (fun t : State => t.svw), State.joinGroup_svw, left, ite_self]
@[simp] theorem State.followDrivability_ptk (was : Option Nat) (c : Fin 8) (s : State) : (s.followDrivability was c).ptk = s.ptk := by
  have left : ∀ (l : List Nat) (t : State), (l.foldl (fun s id => s.leaveGroup c id) t).ptk = t.ptk :=
    fun l t => foldl_keeps (fun s => s.ptk) (fun p s => State.leaveGroup_ptk c p s) l t
  simp only [State.followDrivability, apply_ite (fun t : State => t.ptk), State.joinGroup_ptk, left, ite_self]
@[simp] theorem State.followDrivability_bgu (was : Option Nat) (c : Fin 8) (s : State) : (s.followDrivability was c).bgu = s.bgu := by
  have left : ∀ (l : List Nat) (t : State), (l.foldl (fun s id => s.leaveGroup c id) t).bgu = t.bgu :=
    fun l t => foldl_keeps (fun s => s.bgu) (fun p s => State.leaveGroup_bgu c p s) l t
  simp only [State.followDrivability, apply_ite (fun t : State => t.bgu), State.joinGroup_bgu, left, ite_self]
@[simp] theorem State.followDrivability_prt (was : Option Nat) (c : Fin 8) (s : State) : (s.followDrivability was c).prt = s.prt := by
  have left : ∀ (l : List Nat) (t : State), (l.foldl (fun s id => s.leaveGroup c id) t).prt = t.prt :=
    fun l t => foldl_keeps (fun s => s.prt) (fun p s => State.leaveGroup_prt c p s) l t
  simp only [State.followDrivability, apply_ite (fun t : State => t.prt), State.joinGroup_prt, left, ite_self]

/-! `State.conditionChanged` -/

@[simp] theorem State.conditionChanged_pending (was : Option Nat) (c : Fin 8) (s : State) : (s.conditionChanged was c).pending = s.pending := by
  simp [State.conditionChanged]
@[simp] theorem State.conditionChanged_clock (was : Option Nat) (c : Fin 8) (s : State) : (s.conditionChanged was c).clock = s.clock := by
  simp [State.conditionChanged]
@[simp] theorem State.conditionChanged_inReset (was : Option Nat) (c : Fin 8) (s : State) : (s.conditionChanged was c).inReset = s.inReset := by
  simp [State.conditionChanged]
@[simp] theorem State.conditionChanged_supplyWasLow (was : Option Nat) (c : Fin 8) (s : State) : (s.conditionChanged was c).supplyWasLow = s.supplyWasLow := by
  simp [State.conditionChanged]
@[simp] theorem State.conditionChanged_cause (was : Option Nat) (c : Fin 8) (s : State) : (s.conditionChanged was c).cause = s.cause := by
  simp [State.conditionChanged]
@[simp] theorem State.conditionChanged_straps (was : Option Nat) (c : Fin 8) (s : State) : (s.conditionChanged was c).straps = s.straps := by
  simp [State.conditionChanged]
@[simp] theorem State.conditionChanged_free (was : Option Nat) (c : Fin 8) (s : State) : (s.conditionChanged was c).free = s.free := by
  simp [State.conditionChanged]
@[simp] theorem State.conditionChanged_mtu (was : Option Nat) (c : Fin 8) (s : State) : (s.conditionChanged was c).mtu = s.mtu := by
  simp [State.conditionChanged]
@[simp] theorem State.conditionChanged_prb (was : Option Nat) (c : Fin 8) (s : State) : (s.conditionChanged was c).prb = s.prb := by
  simp [State.conditionChanged]
@[simp] theorem State.conditionChanged_svw (was : Option Nat) (c : Fin 8) (s : State) : (s.conditionChanged was c).svw = s.svw := by
  simp [State.conditionChanged]
@[simp] theorem State.conditionChanged_bgu (was : Option Nat) (c : Fin 8) (s : State) : (s.conditionChanged was c).bgu = s.bgu := by
  simp [State.conditionChanged]
@[simp] theorem State.conditionChanged_prt (was : Option Nat) (c : Fin 8) (s : State) : (s.conditionChanged was c).prt = s.prt := by
  simp [State.conditionChanged]

/-! `State.requestUnfit` -/

@[simp] theorem State.requestUnfit_pending (c : Fin 8) (b : Bool) (s : State) : (s.requestUnfit c b).pending = s.pending := by
  simp only [State.requestUnfit]; repeat' split
  all_goals simp
@[simp] theorem State.requestUnfit_clock (c : Fin 8) (b : Bool) (s : State) : (s.requestUnfit c b).clock = s.clock := by
  simp only [State.requestUnfit]; repeat' split
  all_goals simp
@[simp] theorem State.requestUnfit_inReset (c : Fin 8) (b : Bool) (s : State) : (s.requestUnfit c b).inReset = s.inReset := by
  simp only [State.requestUnfit]; repeat' split
  all_goals simp
@[simp] theorem State.requestUnfit_supplyWasLow (c : Fin 8) (b : Bool) (s : State) : (s.requestUnfit c b).supplyWasLow = s.supplyWasLow := by
  simp only [State.requestUnfit]; repeat' split
  all_goals simp
@[simp] theorem State.requestUnfit_cause (c : Fin 8) (b : Bool) (s : State) : (s.requestUnfit c b).cause = s.cause := by
  simp only [State.requestUnfit]; repeat' split
  all_goals simp
@[simp] theorem State.requestUnfit_straps (c : Fin 8) (b : Bool) (s : State) : (s.requestUnfit c b).straps = s.straps := by
  simp only [State.requestUnfit]; repeat' split
  all_goals simp
@[simp] theorem State.requestUnfit_free (c : Fin 8) (b : Bool) (s : State) : (s.requestUnfit c b).free = s.free := by
  simp only [State.requestUnfit]; repeat' split
  all_goals simp
@[simp] theorem State.requestUnfit_mtu (c : Fin 8) (b : Bool) (s : State) : (s.requestUnfit c b).mtu = s.mtu := by
  simp only [State.requestUnfit]; repeat' split
  all_goals simp
@[simp] theorem State.requestUnfit_svw (c : Fin 8) (b : Bool) (s : State) : (s.requestUnfit c b).svw = s.svw := by
  simp only [State.requestUnfit]; repeat' split
  all_goals simp
@[simp] theorem State.requestUnfit_bgu (c : Fin 8) (b : Bool) (s : State) : (s.requestUnfit c b).bgu = s.bgu := by
  simp only [State.requestUnfit]; repeat' split
  all_goals simp
@[simp] theorem State.requestUnfit_prt (c : Fin 8) (b : Bool) (s : State) : (s.requestUnfit c b).prt = s.prt := by
  simp only [State.requestUnfit]; repeat' split
  all_goals simp

/-! `State.setLabel` -/

@[simp] theorem State.setLabel_pending (c : Fin 8) (l : Nat) (s : State) : (s.setLabel c l).pending = s.pending := by
  unfold State.setLabel; split <;> simp
@[simp] theorem State.setLabel_clock (c : Fin 8) (l : Nat) (s : State) : (s.setLabel c l).clock = s.clock := by
  unfold State.setLabel; split <;> simp
@[simp] theorem State.setLabel_inReset (c : Fin 8) (l : Nat) (s : State) : (s.setLabel c l).inReset = s.inReset := by
  unfold State.setLabel; split <;> simp
@[simp] theorem State.setLabel_supplyWasLow (c : Fin 8) (l : Nat) (s : State) : (s.setLabel c l).supplyWasLow = s.supplyWasLow := by
  unfold State.setLabel; split <;> simp
@[simp] theorem State.setLabel_cause (c : Fin 8) (l : Nat) (s : State) : (s.setLabel c l).cause = s.cause := by
  unfold State.setLabel; split <;> simp
@[simp] theorem State.setLabel_straps (c : Fin 8) (l : Nat) (s : State) : (s.setLabel c l).straps = s.straps := by
  unfold State.setLabel; split <;> simp
@[simp] theorem State.setLabel_free (c : Fin 8) (l : Nat) (s : State) : (s.setLabel c l).free = s.free := by
  unfold State.setLabel; split <;> simp
@[simp] theorem State.setLabel_mtu (c : Fin 8) (l : Nat) (s : State) : (s.setLabel c l).mtu = s.mtu := by
  unfold State.setLabel; split <;> simp
@[simp] theorem State.setLabel_svw (c : Fin 8) (l : Nat) (s : State) : (s.setLabel c l).svw = s.svw := by
  unfold State.setLabel; split <;> simp
@[simp] theorem State.setLabel_bgu (c : Fin 8) (l : Nat) (s : State) : (s.setLabel c l).bgu = s.bgu := by
  unfold State.setLabel; split <;> simp
@[simp] theorem State.setLabel_prt (c : Fin 8) (l : Nat) (s : State) : (s.setLabel c l).prt = s.prt := by
  unfold State.setLabel; split <;> simp

/-! `State.setBand` -/

@[simp] theorem State.setBand_pending (c : Fin 8) (b : Band) (s : State) : (s.setBand c b).pending = s.pending := by
  unfold State.setBand; split <;> simp
@[simp] theorem State.setBand_clock (c : Fin 8) (b : Band) (s : State) : (s.setBand c b).clock = s.clock := by
  unfold State.setBand; split <;> simp
@[simp] theorem State.setBand_inReset (c : Fin 8) (b : Band) (s : State) : (s.setBand c b).inReset = s.inReset := by
  unfold State.setBand; split <;> simp
@[simp] theorem State.setBand_supplyWasLow (c : Fin 8) (b : Band) (s : State) : (s.setBand c b).supplyWasLow = s.supplyWasLow := by
  unfold State.setBand; split <;> simp
@[simp] theorem State.setBand_cause (c : Fin 8) (b : Band) (s : State) : (s.setBand c b).cause = s.cause := by
  unfold State.setBand; split <;> simp
@[simp] theorem State.setBand_straps (c : Fin 8) (b : Band) (s : State) : (s.setBand c b).straps = s.straps := by
  unfold State.setBand; split <;> simp
@[simp] theorem State.setBand_free (c : Fin 8) (b : Band) (s : State) : (s.setBand c b).free = s.free := by
  unfold State.setBand; split <;> simp
@[simp] theorem State.setBand_mtu (c : Fin 8) (b : Band) (s : State) : (s.setBand c b).mtu = s.mtu := by
  unfold State.setBand; split <;> simp
@[simp] theorem State.setBand_prb (c : Fin 8) (b : Band) (s : State) : (s.setBand c b).prb = s.prb := by
  unfold State.setBand; split <;> simp
@[simp] theorem State.setBand_svw (c : Fin 8) (b : Band) (s : State) : (s.setBand c b).svw = s.svw := by
  unfold State.setBand; split <;> simp
@[simp] theorem State.setBand_ptk (c : Fin 8) (b : Band) (s : State) : (s.setBand c b).ptk = s.ptk := by
  unfold State.setBand; split <;> simp
@[simp] theorem State.setBand_bgu (c : Fin 8) (b : Band) (s : State) : (s.setBand c b).bgu = s.bgu := by
  unfold State.setBand; split <;> simp

/-! `State.stripUncovered` -/

@[simp] theorem State.stripUncovered_pending (c : Fin 8) (s : State) : (s.stripUncovered c).pending = s.pending := by
  simp only [State.stripUncovered]; split <;> simp
@[simp] theorem State.stripUncovered_clock (c : Fin 8) (s : State) : (s.stripUncovered c).clock = s.clock := by
  simp only [State.stripUncovered]; split <;> simp
@[simp] theorem State.stripUncovered_inReset (c : Fin 8) (s : State) : (s.stripUncovered c).inReset = s.inReset := by
  simp only [State.stripUncovered]; split <;> simp
@[simp] theorem State.stripUncovered_supplyWasLow (c : Fin 8) (s : State) : (s.stripUncovered c).supplyWasLow = s.supplyWasLow := by
  simp only [State.stripUncovered]; split <;> simp
@[simp] theorem State.stripUncovered_cause (c : Fin 8) (s : State) : (s.stripUncovered c).cause = s.cause := by
  simp only [State.stripUncovered]; split <;> simp
@[simp] theorem State.stripUncovered_straps (c : Fin 8) (s : State) : (s.stripUncovered c).straps = s.straps := by
  simp only [State.stripUncovered]; split <;> simp
@[simp] theorem State.stripUncovered_free (c : Fin 8) (s : State) : (s.stripUncovered c).free = s.free := by
  simp only [State.stripUncovered]; split <;> simp
@[simp] theorem State.stripUncovered_mtu (c : Fin 8) (s : State) : (s.stripUncovered c).mtu = s.mtu := by
  simp only [State.stripUncovered]; split <;> simp
@[simp] theorem State.stripUncovered_svw (c : Fin 8) (s : State) : (s.stripUncovered c).svw = s.svw := by
  simp only [State.stripUncovered]; split <;> simp
@[simp] theorem State.stripUncovered_bgu (c : Fin 8) (s : State) : (s.stripUncovered c).bgu = s.bgu := by
  simp only [State.stripUncovered]; split <;> simp
@[simp] theorem State.stripUncovered_prt (c : Fin 8) (s : State) : (s.stripUncovered c).prt = s.prt := by
  simp only [State.stripUncovered]; split <;> simp

/-! `State.expiryNotice` -/

@[simp] theorem State.expiryNotice_pending (before : State) (st : Fin 8) (s : State) : (State.expiryNotice before st s).pending = s.pending := by
  unfold State.expiryNotice; split <;> simp
@[simp] theorem State.expiryNotice_clock (before : State) (st : Fin 8) (s : State) : (State.expiryNotice before st s).clock = s.clock := by
  unfold State.expiryNotice; split <;> simp
@[simp] theorem State.expiryNotice_inReset (before : State) (st : Fin 8) (s : State) : (State.expiryNotice before st s).inReset = s.inReset := by
  unfold State.expiryNotice; split <;> simp
@[simp] theorem State.expiryNotice_supplyWasLow (before : State) (st : Fin 8) (s : State) : (State.expiryNotice before st s).supplyWasLow = s.supplyWasLow := by
  unfold State.expiryNotice; split <;> simp
@[simp] theorem State.expiryNotice_cause (before : State) (st : Fin 8) (s : State) : (State.expiryNotice before st s).cause = s.cause := by
  unfold State.expiryNotice; split <;> simp
@[simp] theorem State.expiryNotice_straps (before : State) (st : Fin 8) (s : State) : (State.expiryNotice before st s).straps = s.straps := by
  unfold State.expiryNotice; split <;> simp
@[simp] theorem State.expiryNotice_free (before : State) (st : Fin 8) (s : State) : (State.expiryNotice before st s).free = s.free := by
  unfold State.expiryNotice; split <;> simp
@[simp] theorem State.expiryNotice_mtu (before : State) (st : Fin 8) (s : State) : (State.expiryNotice before st s).mtu = s.mtu := by
  unfold State.expiryNotice; split <;> simp
@[simp] theorem State.expiryNotice_prb (before : State) (st : Fin 8) (s : State) : (State.expiryNotice before st s).prb = s.prb := by
  unfold State.expiryNotice; split <;> simp
@[simp] theorem State.expiryNotice_tbi (before : State) (st : Fin 8) (s : State) : (State.expiryNotice before st s).tbi = s.tbi := by
  unfold State.expiryNotice; split <;> simp
@[simp] theorem State.expiryNotice_svw (before : State) (st : Fin 8) (s : State) : (State.expiryNotice before st s).svw = s.svw := by
  unfold State.expiryNotice; split <;> simp
@[simp] theorem State.expiryNotice_lau (before : State) (st : Fin 8) (s : State) : (State.expiryNotice before st s).lau = s.lau := by
  unfold State.expiryNotice; split <;> simp
@[simp] theorem State.expiryNotice_bgu (before : State) (st : Fin 8) (s : State) : (State.expiryNotice before st s).bgu = s.bgu := by
  unfold State.expiryNotice; split <;> simp
@[simp] theorem State.expiryNotice_fqu (before : State) (st : Fin 8) (s : State) : (State.expiryNotice before st s).fqu = s.fqu := by
  unfold State.expiryNotice; split <;> simp
@[simp] theorem State.expiryNotice_drv (before : State) (st : Fin 8) (s : State) : (State.expiryNotice before st s).drv = s.drv := by
  unfold State.expiryNotice; split <;> simp
@[simp] theorem State.expiryNotice_prt (before : State) (st : Fin 8) (s : State) : (State.expiryNotice before st s).prt = s.prt := by
  unfold State.expiryNotice; split <;> simp

/-! `State.enterListen` -/

@[simp] theorem State.enterListen_pending (s : State) : (s.enterListen).pending = s.pending := by
  simp only [State.enterListen, State.refreshPeriod_pending, State.trigger_pending]
  rw [foldl_keeps (fun s => s.pending) (fun p s => State.dropRecord_pending p s),
    eachOfEight_keeps (fun s => s.pending) (fun c t => State.expiryNotice_pending s c t)]
@[simp] theorem State.enterListen_clock (s : State) : (s.enterListen).clock = s.clock := by
  simp only [State.enterListen, State.refreshPeriod_clock, State.trigger_clock]
  rw [foldl_keeps (fun s => s.clock) (fun p s => State.dropRecord_clock p s),
    eachOfEight_keeps (fun s => s.clock) (fun c t => State.expiryNotice_clock s c t)]
@[simp] theorem State.enterListen_inReset (s : State) : (s.enterListen).inReset = s.inReset := by
  simp only [State.enterListen, State.refreshPeriod_inReset, State.trigger_inReset]
  rw [foldl_keeps (fun s => s.inReset) (fun p s => State.dropRecord_inReset p s),
    eachOfEight_keeps (fun s => s.inReset) (fun c t => State.expiryNotice_inReset s c t)]
@[simp] theorem State.enterListen_supplyWasLow (s : State) : (s.enterListen).supplyWasLow = s.supplyWasLow := by
  simp only [State.enterListen, State.refreshPeriod_supplyWasLow, State.trigger_supplyWasLow]
  rw [foldl_keeps (fun s => s.supplyWasLow) (fun p s => State.dropRecord_supplyWasLow p s),
    eachOfEight_keeps (fun s => s.supplyWasLow) (fun c t => State.expiryNotice_supplyWasLow s c t)]
@[simp] theorem State.enterListen_cause (s : State) : (s.enterListen).cause = s.cause := by
  simp only [State.enterListen, State.refreshPeriod_cause, State.trigger_cause]
  rw [foldl_keeps (fun s => s.cause) (fun p s => State.dropRecord_cause p s),
    eachOfEight_keeps (fun s => s.cause) (fun c t => State.expiryNotice_cause s c t)]
@[simp] theorem State.enterListen_straps (s : State) : (s.enterListen).straps = s.straps := by
  simp only [State.enterListen, State.refreshPeriod_straps, State.trigger_straps]
  rw [foldl_keeps (fun s => s.straps) (fun p s => State.dropRecord_straps p s),
    eachOfEight_keeps (fun s => s.straps) (fun c t => State.expiryNotice_straps s c t)]
@[simp] theorem State.enterListen_free (s : State) : (s.enterListen).free = s.free := by
  simp only [State.enterListen, State.refreshPeriod_free, State.trigger_free]
  rw [foldl_keeps (fun s => s.free) (fun p s => State.dropRecord_free p s),
    eachOfEight_keeps (fun s => s.free) (fun c t => State.expiryNotice_free s c t)]
@[simp] theorem State.enterListen_mtu (s : State) : (s.enterListen).mtu = s.mtu := by
  simp only [State.enterListen, State.refreshPeriod_mtu, State.trigger_mtu]
  rw [foldl_keeps (fun s => s.mtu) (fun p s => State.dropRecord_mtu p s),
    eachOfEight_keeps (fun s => s.mtu) (fun c t => State.expiryNotice_mtu s c t)]
@[simp] theorem State.enterListen_prb (s : State) : (s.enterListen).prb = s.prb := by
  simp only [State.enterListen, State.refreshPeriod_prb, State.trigger_prb]
  rw [foldl_keeps (fun s => s.prb) (fun p s => State.dropRecord_prb p s),
    eachOfEight_keeps (fun s => s.prb) (fun c t => State.expiryNotice_prb s c t)]
@[simp] theorem State.enterListen_prt (s : State) : (s.enterListen).prt = s.prt := by
  simp only [State.enterListen, State.refreshPeriod_prt, State.trigger_prt]
  rw [foldl_keeps (fun s => s.prt) (fun p s => State.dropRecord_prt p s),
    eachOfEight_keeps (fun s => s.prt) (fun c t => State.expiryNotice_prt s c t)]

/-! `State.enterIsolated` -/

@[simp] theorem State.enterIsolated_pending (s : State) : (s.enterIsolated).pending = s.pending := by
  simp [State.enterIsolated]
@[simp] theorem State.enterIsolated_clock (s : State) : (s.enterIsolated).clock = s.clock := by
  simp [State.enterIsolated]
@[simp] theorem State.enterIsolated_inReset (s : State) : (s.enterIsolated).inReset = s.inReset := by
  simp [State.enterIsolated]
@[simp] theorem State.enterIsolated_supplyWasLow (s : State) : (s.enterIsolated).supplyWasLow = s.supplyWasLow := by
  simp [State.enterIsolated]
@[simp] theorem State.enterIsolated_cause (s : State) : (s.enterIsolated).cause = s.cause := by
  simp [State.enterIsolated]
@[simp] theorem State.enterIsolated_straps (s : State) : (s.enterIsolated).straps = s.straps := by
  simp [State.enterIsolated]
@[simp] theorem State.enterIsolated_free (s : State) : (s.enterIsolated).free = s.free := by
  simp [State.enterIsolated]
@[simp] theorem State.enterIsolated_mtu (s : State) : (s.enterIsolated).mtu = s.mtu := by
  simp [State.enterIsolated]
@[simp] theorem State.enterIsolated_prb (s : State) : (s.enterIsolated).prb = s.prb := by
  simp [State.enterIsolated]
@[simp] theorem State.enterIsolated_svw (s : State) : (s.enterIsolated).svw = s.svw := by
  simp [State.enterIsolated]
@[simp] theorem State.enterIsolated_prt (s : State) : (s.enterIsolated).prt = s.prt := by
  simp [State.enterIsolated]

/-! `State.enterConflict` -/

@[simp] theorem State.enterConflict_pending (s : State) : (s.enterConflict).pending = s.pending := by
  unfold State.enterConflict; split <;> simp
@[simp] theorem State.enterConflict_clock (s : State) : (s.enterConflict).clock = s.clock := by
  unfold State.enterConflict; split <;> simp
@[simp] theorem State.enterConflict_inReset (s : State) : (s.enterConflict).inReset = s.inReset := by
  unfold State.enterConflict; split <;> simp
@[simp] theorem State.enterConflict_supplyWasLow (s : State) : (s.enterConflict).supplyWasLow = s.supplyWasLow := by
  unfold State.enterConflict; split <;> simp
@[simp] theorem State.enterConflict_cause (s : State) : (s.enterConflict).cause = s.cause := by
  unfold State.enterConflict; split <;> simp
@[simp] theorem State.enterConflict_straps (s : State) : (s.enterConflict).straps = s.straps := by
  unfold State.enterConflict; split <;> simp
@[simp] theorem State.enterConflict_free (s : State) : (s.enterConflict).free = s.free := by
  unfold State.enterConflict; split <;> simp
@[simp] theorem State.enterConflict_mtu (s : State) : (s.enterConflict).mtu = s.mtu := by
  unfold State.enterConflict; split <;> simp
@[simp] theorem State.enterConflict_prb (s : State) : (s.enterConflict).prb = s.prb := by
  unfold State.enterConflict; split <;> simp
@[simp] theorem State.enterConflict_svw (s : State) : (s.enterConflict).svw = s.svw := by
  unfold State.enterConflict; split <;> simp
@[simp] theorem State.enterConflict_prt (s : State) : (s.enterConflict).prt = s.prt := by
  unfold State.enterConflict; split <;> simp

/-! `State.isolationCheck` -/

@[simp] theorem State.isolationCheck_pending (s : State) : (s.isolationCheck).pending = s.pending := by
  unfold State.isolationCheck; split <;> simp
@[simp] theorem State.isolationCheck_clock (s : State) : (s.isolationCheck).clock = s.clock := by
  unfold State.isolationCheck; split <;> simp
@[simp] theorem State.isolationCheck_inReset (s : State) : (s.isolationCheck).inReset = s.inReset := by
  unfold State.isolationCheck; split <;> simp
@[simp] theorem State.isolationCheck_supplyWasLow (s : State) : (s.isolationCheck).supplyWasLow = s.supplyWasLow := by
  unfold State.isolationCheck; split <;> simp
@[simp] theorem State.isolationCheck_cause (s : State) : (s.isolationCheck).cause = s.cause := by
  unfold State.isolationCheck; split <;> simp
@[simp] theorem State.isolationCheck_straps (s : State) : (s.isolationCheck).straps = s.straps := by
  unfold State.isolationCheck; split <;> simp
@[simp] theorem State.isolationCheck_free (s : State) : (s.isolationCheck).free = s.free := by
  unfold State.isolationCheck; split <;> simp
@[simp] theorem State.isolationCheck_mtu (s : State) : (s.isolationCheck).mtu = s.mtu := by
  unfold State.isolationCheck; split <;> simp
@[simp] theorem State.isolationCheck_prb (s : State) : (s.isolationCheck).prb = s.prb := by
  unfold State.isolationCheck; split <;> simp
@[simp] theorem State.isolationCheck_prt (s : State) : (s.isolationCheck).prt = s.prt := by
  unfold State.isolationCheck; split <;> simp

/-! `State.requestAll` -/

@[simp] theorem State.requestAll_pending (s : State) : (s.requestAll).pending = s.pending := by
  exact foldl_keeps (fun s => s.pending) (fun p s => State.requestPan_pending p s) _ _
@[simp] theorem State.requestAll_clock (s : State) : (s.requestAll).clock = s.clock := by
  exact foldl_keeps (fun s => s.clock) (fun p s => State.requestPan_clock p s) _ _
@[simp] theorem State.requestAll_inReset (s : State) : (s.requestAll).inReset = s.inReset := by
  exact foldl_keeps (fun s => s.inReset) (fun p s => State.requestPan_inReset p s) _ _
@[simp] theorem State.requestAll_supplyWasLow (s : State) : (s.requestAll).supplyWasLow = s.supplyWasLow := by
  exact foldl_keeps (fun s => s.supplyWasLow) (fun p s => State.requestPan_supplyWasLow p s) _ _
@[simp] theorem State.requestAll_cause (s : State) : (s.requestAll).cause = s.cause := by
  exact foldl_keeps (fun s => s.cause) (fun p s => State.requestPan_cause p s) _ _
@[simp] theorem State.requestAll_straps (s : State) : (s.requestAll).straps = s.straps := by
  exact foldl_keeps (fun s => s.straps) (fun p s => State.requestPan_straps p s) _ _
@[simp] theorem State.requestAll_free (s : State) : (s.requestAll).free = s.free := by
  exact foldl_keeps (fun s => s.free) (fun p s => State.requestPan_free p s) _ _
@[simp] theorem State.requestAll_mtu (s : State) : (s.requestAll).mtu = s.mtu := by
  exact foldl_keeps (fun s => s.mtu) (fun p s => State.requestPan_mtu p s) _ _
@[simp] theorem State.requestAll_prb (s : State) : (s.requestAll).prb = s.prb := by
  exact foldl_keeps (fun s => s.prb) (fun p s => State.requestPan_prb p s) _ _
@[simp] theorem State.requestAll_svw (s : State) : (s.requestAll).svw = s.svw := by
  exact foldl_keeps (fun s => s.svw) (fun p s => State.requestPan_svw p s) _ _
@[simp] theorem State.requestAll_lau (s : State) : (s.requestAll).lau = s.lau := by
  exact foldl_keeps (fun s => s.lau) (fun p s => State.requestPan_lau p s) _ _
@[simp] theorem State.requestAll_bgu (s : State) : (s.requestAll).bgu = s.bgu := by
  exact foldl_keeps (fun s => s.bgu) (fun p s => State.requestPan_bgu p s) _ _
@[simp] theorem State.requestAll_fqu (s : State) : (s.requestAll).fqu = s.fqu := by
  exact foldl_keeps (fun s => s.fqu) (fun p s => State.requestPan_fqu p s) _ _
@[simp] theorem State.requestAll_drv (s : State) : (s.requestAll).drv = s.drv := by
  exact foldl_keeps (fun s => s.drv) (fun p s => State.requestPan_drv p s) _ _
@[simp] theorem State.requestAll_prt (s : State) : (s.requestAll).prt = s.prt := by
  exact foldl_keeps (fun s => s.prt) (fun p s => State.requestPan_prt p s) _ _

/-! `State.reviewAfterWrite` -/

@[simp] theorem State.reviewAfterWrite_pending (src : Fin 8) (s : State) : (s.reviewAfterWrite src).pending = s.pending := by
  unfold State.reviewAfterWrite; repeat' split
  all_goals rfl
@[simp] theorem State.reviewAfterWrite_clock (src : Fin 8) (s : State) : (s.reviewAfterWrite src).clock = s.clock := by
  unfold State.reviewAfterWrite; repeat' split
  all_goals rfl
@[simp] theorem State.reviewAfterWrite_inReset (src : Fin 8) (s : State) : (s.reviewAfterWrite src).inReset = s.inReset := by
  unfold State.reviewAfterWrite; repeat' split
  all_goals rfl
@[simp] theorem State.reviewAfterWrite_supplyWasLow (src : Fin 8) (s : State) : (s.reviewAfterWrite src).supplyWasLow = s.supplyWasLow := by
  unfold State.reviewAfterWrite; repeat' split
  all_goals rfl
@[simp] theorem State.reviewAfterWrite_cause (src : Fin 8) (s : State) : (s.reviewAfterWrite src).cause = s.cause := by
  unfold State.reviewAfterWrite; repeat' split
  all_goals rfl
@[simp] theorem State.reviewAfterWrite_straps (src : Fin 8) (s : State) : (s.reviewAfterWrite src).straps = s.straps := by
  unfold State.reviewAfterWrite; repeat' split
  all_goals rfl
@[simp] theorem State.reviewAfterWrite_mtu (src : Fin 8) (s : State) : (s.reviewAfterWrite src).mtu = s.mtu := by
  unfold State.reviewAfterWrite; repeat' split
  all_goals rfl
@[simp] theorem State.reviewAfterWrite_prb (src : Fin 8) (s : State) : (s.reviewAfterWrite src).prb = s.prb := by
  unfold State.reviewAfterWrite; repeat' split
  all_goals rfl
@[simp] theorem State.reviewAfterWrite_tbi (src : Fin 8) (s : State) : (s.reviewAfterWrite src).tbi = s.tbi := by
  unfold State.reviewAfterWrite; repeat' split
  all_goals rfl
@[simp] theorem State.reviewAfterWrite_svw (src : Fin 8) (s : State) : (s.reviewAfterWrite src).svw = s.svw := by
  unfold State.reviewAfterWrite; repeat' split
  all_goals rfl
@[simp] theorem State.reviewAfterWrite_ptk (src : Fin 8) (s : State) : (s.reviewAfterWrite src).ptk = s.ptk := by
  unfold State.reviewAfterWrite; repeat' split
  all_goals rfl
@[simp] theorem State.reviewAfterWrite_bgu (src : Fin 8) (s : State) : (s.reviewAfterWrite src).bgu = s.bgu := by
  unfold State.reviewAfterWrite; repeat' split
  all_goals rfl
@[simp] theorem State.reviewAfterWrite_fqu (src : Fin 8) (s : State) : (s.reviewAfterWrite src).fqu = s.fqu := by
  unfold State.reviewAfterWrite; repeat' split
  all_goals rfl
@[simp] theorem State.reviewAfterWrite_drv (src : Fin 8) (s : State) : (s.reviewAfterWrite src).drv = s.drv := by
  unfold State.reviewAfterWrite; repeat' split
  all_goals rfl
@[simp] theorem State.reviewAfterWrite_prt (src : Fin 8) (s : State) : (s.reviewAfterWrite src).prt = s.prt := by
  unfold State.reviewAfterWrite; repeat' split
  all_goals rfl

/-! `State.joinCheck` -/

@[simp] theorem State.joinCheck_pending (s : State) : (s.joinCheck).pending = s.pending := by
  unfold State.joinCheck; split <;> simp
@[simp] theorem State.joinCheck_clock (s : State) : (s.joinCheck).clock = s.clock := by
  unfold State.joinCheck; split <;> simp
@[simp] theorem State.joinCheck_inReset (s : State) : (s.joinCheck).inReset = s.inReset := by
  unfold State.joinCheck; split <;> simp
@[simp] theorem State.joinCheck_supplyWasLow (s : State) : (s.joinCheck).supplyWasLow = s.supplyWasLow := by
  unfold State.joinCheck; split <;> simp
@[simp] theorem State.joinCheck_cause (s : State) : (s.joinCheck).cause = s.cause := by
  unfold State.joinCheck; split <;> simp
@[simp] theorem State.joinCheck_straps (s : State) : (s.joinCheck).straps = s.straps := by
  unfold State.joinCheck; split <;> simp
@[simp] theorem State.joinCheck_free (s : State) : (s.joinCheck).free = s.free := by
  unfold State.joinCheck; split <;> simp
@[simp] theorem State.joinCheck_mtu (s : State) : (s.joinCheck).mtu = s.mtu := by
  unfold State.joinCheck; split <;> simp
@[simp] theorem State.joinCheck_prb (s : State) : (s.joinCheck).prb = s.prb := by
  unfold State.joinCheck; split <;> simp
@[simp] theorem State.joinCheck_svw (s : State) : (s.joinCheck).svw = s.svw := by
  unfold State.joinCheck; split <;> simp
@[simp] theorem State.joinCheck_bgu (s : State) : (s.joinCheck).bgu = s.bgu := by
  unfold State.joinCheck; split <;> simp
@[simp] theorem State.joinCheck_fqu (s : State) : (s.joinCheck).fqu = s.fqu := by
  unfold State.joinCheck; split <;> simp
@[simp] theorem State.joinCheck_drv (s : State) : (s.joinCheck).drv = s.drv := by
  unfold State.joinCheck; split <;> simp
@[simp] theorem State.joinCheck_prt (s : State) : (s.joinCheck).prt = s.prt := by
  unfold State.joinCheck; split <;> simp

end Sys2Proof.Machine
end

