-- ==== Sys2Proof/Laws/Effects.lean ====
section
/-!
SUPPORT. What the shared operations do to the parts they write: the registry, labels and marks of own coils, drive
members and driving flags, a drive that stops, levels, and the levels of a frame on the line.
-/

namespace Sys2Proof.Machine

/-! ### Eight writes in turn -/

/-- An operation that gives part `d` the value `v d` at its own index, and keeps it at every other, has given every part
its value after all eight. -/
theorem eachOfEight_sets {β : Type} (g : State → Fin 8 → β) (v : Fin 8 → β) {f : Fin 8 → State → State}
    (own : ∀ c s, g (f c s) c = v c) (other : ∀ c d s, d ≠ c → g (f c s) d = g s d) (s : State) (d : Fin 8) :
    g (eachOfEight f s) d = v d := by
  have key : ∀ (l : List (Fin 8)) (s : State), (d ∈ l ∨ g s d = v d) → g (l.foldl (fun s c => f c s) s) d = v d := by
    intro l
    induction l with
    | nil => intro s h; simpa using h
    | cons c l ih =>
      intro s h
      apply ih
      by_cases hc : d = c
      · subst hc; exact .inr (own _ _)
      · rw [other c d s hc]
        simpa [hc] using h
  exact key eight s (.inl (mem_eight d))

/-! ### Registry -/

/-- R88: after a record is written, its ID is found with it, and every other ID as before. -/
theorem find_insertRecord (r : PanRecord) (q : Nat) : ∀ l : List PanRecord,
    (insertRecord r l).find? (fun x => x.id == q) = if r.id = q then some r else l.find? fun x => x.id == q
  | [] => by by_cases h : r.id = q <;> simp [insertRecord, h]
  | x :: xs => by
    unfold insertRecord
    split
    · by_cases h : r.id = q <;> simp [h]
    · split
      · rename_i h
        by_cases hq : r.id = q
        · simp [hq]
        · have hx : ¬ x.id = q := h ▸ hq
          simp [hq, hx]
      · have ih := find_insertRecord r q xs
        by_cases hx : x.id = q
        · have : ¬ r.id = q := fun e => by omega
          simp [hx, this]
        · simp [hx, ih]

theorem State.record?_writeRecord (r : PanRecord) (s : State) (q : Nat) :
    (s.writeRecord r).record? q = if r.id = q then some r else s.record? q :=
  find_insertRecord r q s.ptk.registry

/-- R88: writing a record keeps the registry in strictly rising ID. -/
theorem insertRecord_sorted (r : PanRecord) : ∀ l : List PanRecord,
    (l.map (·.id)).Pairwise (· < ·) → ((insertRecord r l).map (·.id)).Pairwise (· < ·)
  | [], _ => by simp [insertRecord]
  | x :: xs, h => by
    have hx : ∀ y ∈ xs, x.id < y.id := by simpa using (List.pairwise_cons.mp h).1
    have hs : (xs.map (·.id)).Pairwise (· < ·) := (List.pairwise_cons.mp h).2
    have mem : ∀ (l : List PanRecord) (y : PanRecord), y ∈ insertRecord r l → y = r ∨ y ∈ l := by
      intro l
      induction l with
      | nil => intro y hy; simpa [insertRecord] using hy
      | cons z zs ih =>
        intro y hy
        unfold insertRecord at hy
        split at hy
        · simpa using hy
        · split at hy
          · rcases List.mem_cons.mp hy with e | e
            · exact .inl e
            · exact .inr (List.mem_cons_of_mem _ e)
          · rcases List.mem_cons.mp hy with e | e
            · exact .inr (e ▸ List.mem_cons_self)
            · rcases ih y e with e | e
              · exact .inl e
              · exact .inr (List.mem_cons_of_mem _ e)
    unfold insertRecord
    split
    · rename_i hr
      refine List.pairwise_cons.mpr ⟨?_, h⟩
      intro a ha
      rcases List.mem_map.mp ha with ⟨y, hy, rfl⟩
      rcases List.mem_cons.mp hy with e | e
      · exact e ▸ hr
      · exact hr.trans (hx y e)
    · split
      · rename_i hr
        refine List.pairwise_cons.mpr ⟨?_, hs⟩
        intro a ha
        rcases List.mem_map.mp ha with ⟨y, hy, rfl⟩
        show r.id < y.id
        rw [hr]; exact hx y hy
      · refine List.pairwise_cons.mpr ⟨?_, insertRecord_sorted r xs hs⟩
        intro a ha
        rcases List.mem_map.mp ha with ⟨y, hy, rfl⟩
        rcases mem xs y hy with e | e
        · subst e; show x.id < y.id; omega
        · exact hx y e

/-- R95, R125: writing a record with its consequences writes the registry as a plain write does. -/
@[simp] theorem State.putRecord_registry (r : PanRecord) (s : State) :
    (s.putRecord r).ptk.registry = insertRecord r s.ptk.registry := by
  simp only [State.putRecord]
  repeat' split
  all_goals simp [State.writeRecord]

@[simp] theorem State.putRecord_labels (r : PanRecord) (s : State) : (s.putRecord r).ptk.labels = s.ptk.labels := by
  simp only [State.putRecord]
  repeat' split
  all_goals simp [State.writeRecord]

theorem State.record?_putRecord (r : PanRecord) (s : State) (q : Nat) :
    (s.putRecord r).record? q = if r.id = q then some r else s.record? q := by
  simp only [State.record?, State.putRecord_registry]
  exact find_insertRecord r q s.ptk.registry

/-- R95: a removed record is found no more, and every other ID as before. -/
theorem State.record?_dropRecord (p q : Nat) (s : State) :
    (s.dropRecord p).record? q = if q = p then none else s.record? q := by
  unfold State.dropRecord
  split
  · rename_i h
    by_cases hq : q = p
    · subst hq; simpa using h
    · simp [hq]
  · simp only [State.record?, State.forceZero_ptk, State.trigger_registry]
    by_cases hq : q = p
    · subst hq
      simp
    · rw [if_neg hq, List.find?_filter]
      congr 1
      funext r
      by_cases hr : r.id = q
      · subst hr; simp [hq]
      · simp [hr]

@[simp] theorem State.dropRecord_labels (p : Nat) (s : State) : (s.dropRecord p).ptk.labels = s.ptk.labels := by
  unfold State.dropRecord
  split <;> simp

/-! ### Own coils -/

/-- R44: a request for the UNFIT mark touches no other item of any coil. -/
theorem State.requestUnfit_coil (c d : Fin 8) (b : Bool) (s : State) :
    (s.requestUnfit c b).prb.coils.get d =
      { s.prb.coils.get d with unfit := ((s.requestUnfit c b).prb.coils.get d).unfit } := by
  simp only [State.requestUnfit]
  split
  · rfl
  · split <;> (by_cases h : d = c <;> simp [h])

/-- R44: a request for the UNFIT mark touches no other coil. -/
theorem State.requestUnfit_other (c : Fin 8) {d : Fin 8} (h : d ≠ c) (b : Bool) (s : State) :
    (s.requestUnfit c b).prb.coils.get d = s.prb.coils.get d := by
  simp only [State.requestUnfit]
  split
  · rfl
  · split <;> simp [h]

/-- R126: what following its drivability does to the groups: own coil `c` leaves those it no longer belongs to, those left
without a member end, and it joins the running group of its label only where it has just become drivable for that pan. -/
theorem State.followDrivability_groups (was : Option Nat) (c : Fin 8) (s : State) :
    (s.followDrivability was c).lau.groups =
      let p := s.ptk.labels.get c
      let stays := (dropMember c (s.drivableFor c) s.lau.groups).filter fun g => !noMembers g.members
      if s.drivableFor c = some p ∧ was ≠ some p ∧
          stays.any (fun g => g.id == p && decide (0 < g.scaled) && !g.members.get c) then addMember c p stays
      else stays := by
  have left : ∀ (l : List Nat) (t : State), (l.foldl (fun s id => s.leaveGroup c id) t).lau = t.lau :=
    fun l t => foldl_keeps (fun s => s.lau) (fun p s => State.leaveGroup_lau c p s) l t
  simp only [State.followDrivability, left, apply_ite (fun t : State => t.lau.groups), State.joinGroup_lau]

/-- R126: a coil that was drivable for the pan of its label before joins no group. -/
theorem State.followDrivability_groups_of_was (c : Fin 8) (s : State) :
    (s.followDrivability (some (s.ptk.labels.get c)) c).lau.groups =
      (dropMember c (s.drivableFor c) s.lau.groups).filter fun g => !noMembers g.members := by
  simp [State.followDrivability_groups]

@[simp] theorem State.followDrivability_labels (was : Option Nat) (c : Fin 8) (s : State) :
    (s.followDrivability was c).ptk.labels = s.ptk.labels := by simp

@[simp] theorem State.requestUnfit_labels (c : Fin 8) (b : Bool) (s : State) :
    (s.requestUnfit c b).ptk.labels = s.ptk.labels := by
  simp only [State.requestUnfit]
  repeat' split
  all_goals simp [State.conditionChanged]

@[simp] theorem State.requestUnfit_registry (c : Fin 8) (b : Bool) (s : State) :
    (s.requestUnfit c b).ptk.registry = s.ptk.registry := by
  simp only [State.requestUnfit]
  repeat' split
  all_goals simp [State.conditionChanged]

/-- R87: writing a label writes that coil's label and no other. -/
theorem State.setLabel_labels (c d : Fin 8) (l : Nat) (s : State) :
    (s.setLabel c l).ptk.labels.get d = if d = c then l else s.ptk.labels.get d := by
  unfold State.setLabel
  split
  · rename_i h; by_cases hd : d = c <;> simp [hd, h]
  · simp [Oct.get_set]

@[simp] theorem State.setLabel_registry (c : Fin 8) (l : Nat) (s : State) :
    (s.setLabel c l).ptk.registry = s.ptk.registry := by
  unfold State.setLabel
  split
  · rfl
  · simp

/-! ### Drive -/

@[simp] theorem State.setDriving_records (c : Fin 8) (b : Bool) (s : State) :
    (s.setDriving c b).drv.records = s.drv.records := by
  unfold State.setDriving; split <;> rfl

/-- Table 10-1: the driving flag of that coil and nothing else of any coil. -/
theorem State.setDriving_coil (c d : Fin 8) (b : Bool) (s : State) :
    (s.setDriving c b).drv.coils.get d =
      if d = c then { s.drv.coils.get d with driving := b } else s.drv.coils.get d := by
  unfold State.setDriving
  split
  · rename_i h
    by_cases hd : d = c
    · subst hd; rw [if_pos rfl, ← h]
    · simp [hd]
  · by_cases hd : d = c
    · subst hd; simp
    · simp [hd]

/-- R142: the coil is no drive member afterwards, and every other coil as before. -/
theorem State.leaveDriveMember_members (c d : Fin 8) (s : State) :
    (s.leaveDriveMember c).fqu.members.get d = if d = c then none else s.fqu.members.get d := by
  simp [State.leaveDriveMember, Oct.get_set]

theorem State.leaveDriveMember_driving (c d : Fin 8) (s : State) :
    ((s.leaveDriveMember c).drv.coils.get d).driving = if d = c then false else (s.drv.coils.get d).driving := by
  simp only [State.leaveDriveMember, State.setDriving_coil]
  split <;> rfl

/-- R148: without drive members there is no station limit. -/
theorem State.lowestLimit_none {s : State} (h : ∀ c, s.fqu.members.get c = none) : s.lowestLimit = none := by
  simp [State.lowestLimit, eight, h, optMin]

@[simp] theorem CoilDrive.stop_gates (b : Bool) (d : CoilDrive) : (d.stop b).gates = none := by
  unfold CoilDrive.stop; split <;> rfl

@[simp] theorem CoilDrive.stop_driving (b : Bool) (d : CoilDrive) : (d.stop b).driving = d.driving := by
  unfold CoilDrive.stop; split <;> rfl

/-- R160: what a stop leaves of drive. -/
theorem State.driveStop_stopped (s : State) : s.driveStop.DriveStopped := by
  have members : ∀ c, (eachOfEight State.leaveDriveMember s).fqu.members.get c = none :=
    eachOfEight_sets (fun s d => s.fqu.members.get d) (fun _ => none)
      (fun c s => by simp [State.leaveDriveMember_members])
      (fun c d s h => by simp [State.leaveDriveMember_members, h]) s
  have driving : ∀ c, ((eachOfEight State.leaveDriveMember s).drv.coils.get c).driving = false :=
    eachOfEight_sets (fun s d => (s.drv.coils.get d).driving) (fun _ => false)
      (fun c s => by simp [State.leaveDriveMember_driving])
      (fun c d s h => by simp [State.leaveDriveMember_driving, h]) s
  refine ⟨fun c k => ?_, members, fun c => ?_, fun r hr => ?_, ?_, ?_⟩
  · constructor
    · simp only [State.gateOutput, State.driveStop, State.refreshPeriod, Oct.get_ofFn, CoilDrive.stop_gates]
      simp [gateAt]
    · simp [State.driveStop, State.refreshPeriod]
  · simpa [State.driveStop, State.refreshPeriod] using driving c
  · simp only [State.driveStop, State.refreshPeriod, List.mem_map] at hr
    obtain ⟨x, -, rfl⟩ := hr
    simp [GroupRecord.stop]
  · exact State.lowestLimit_none members
  · simp [State.driveStop, State.refreshPeriod, State.anyStarted, GroupRecord.stop]

/-- R142: nothing of any coil but the driving flag. -/
theorem State.leaveDriveMember_coil (c d : Fin 8) (s : State) :
    (s.leaveDriveMember c).drv.coils.get d =
      { s.drv.coils.get d with driving := ((s.leaveDriveMember c).drv.coils.get d).driving } := by
  simp only [State.leaveDriveMember, State.setDriving_coil]
  split <;> rfl

/-- R160: what a stop does to the energies of the half-cycle. -/
theorem State.driveStop_energies (s : State) : State.EnergiesDiscarded s s.driveStop := by
  intro c
  have same : ∃ b, (eachOfEight State.leaveDriveMember s).drv.coils.get c = { s.drv.coils.get c with driving := b } :=
    eachOfEight_induct (P := fun t => ∃ b, t.drv.coils.get c = { s.drv.coils.get c with driving := b })
      (fun d t ⟨b, hb⟩ => by
        rw [State.leaveDriveMember_coil, hb]; exact ⟨_, rfl⟩)
      ⟨_, rfl⟩
  obtain ⟨b, hb⟩ := same
  have coil : s.driveStop.drv.coils.get c = CoilDrive.stop (s.inStarted c) { s.drv.coils.get c with driving := b } := by
    rw [← hb]; simp [State.driveStop, State.refreshPeriod]
  have member : s.inStarted c = true ↔ ∃ r ∈ s.drv.records, r.state ≠ .waiting ∧ r.members.get c = true := by
    simp [State.inStarted]
  simp only [coil, ← member]
  unfold CoilDrive.stop
  split <;> simp [CoilDrive.gatesLow]

/-! ### The probe terminals -/

/-- R29: without a probe in flight no probe terminal carries a pulse. -/
theorem State.probeOutput_of_none {s : State} (h : s.prb.inFlight = none) (c : Fin 8) : s.probeOutput c = 0 := by
  simp [State.probeOutput, h]

/-- R29: what the burst of a probe in flight has fired into a probe terminal. -/
theorem State.probeOutput_of_flight {s : State} {f : Flight} (h : s.prb.inFlight = some f) (c : Fin 8) :
    s.probeOutput c = if f.fired = true ∧ (c = (pairCoils f.pair).1 ∨ c = (pairCoils f.pair).2) ∧
      (s.prb.coils.get c).opened = false then 8 else 0 := by
  simp [State.probeOutput, CoilProbe.struck, h]

/-! ### Levels and the line -/

/-- R117: what a LEVEL does: nothing, or a write into the held record of another level. -/
theorem State.takeLevel_cases (p l : Nat) (s : State) :
    s.takeLevel p l = s ∨
      ∃ r, s.held? p = some r ∧ r.level ≠ l ∧ p % 16 ≠ 0 ∧ p ≤ 127 ∧ s.takeLevel p l = s.writeHeldLevel l p := by
  unfold State.takeLevel
  split
  · exact .inl rfl
  · rename_i h
    rw [not_or, not_or] at h
    cases hr : s.held? p with
    | none => exact .inl (by simp [State.writeHeldLevel, hr])
    | some r => exact .inr ⟨r, rfl, by simpa [hr] using h.2.2, h.1, by omega, rfl⟩

/-- R117: the level that a held record already has changes nothing. -/
theorem State.takeLevel_same {p l : Nat} {s : State} {r : PanRecord} (h : s.held? p = some r) (hl : r.level = l) :
    s.takeLevel p l = s := by
  simp [State.takeLevel, h, hl]

@[simp] theorem characterBits_length (b : Byte) : (characterBits b).length = 10 := rfl

@[simp] theorem frameBits_cons (b : Byte) (f : List Byte) : frameBits (b :: f) = characterBits b ++ frameBits f := rfl

/-- R50: ten bit times a character. -/
@[simp] theorem frameBits_length (f : List Byte) : (frameBits f).length = 10 * f.length := by
  induction f with
  | nil => rfl
  | cons b f ih => simp [ih]; omega

/-- R50: bit `j` of character `k` of a frame. -/
theorem frameBits_getElem? {j : Nat} (hj : j < 10) : ∀ (f : List Byte) (k : Nat),
    (frameBits f)[10 * k + j]? = f[k]?.bind fun b => (characterBits b)[j]?
  | [], k => by simp [frameBits]
  | b :: f, 0 => by
    rw [frameBits_cons, List.getElem?_append_left (by simpa using hj)]
    simp
  | b :: f, k + 1 => by
    have := frameBits_getElem? hj f k
    rw [frameBits_cons, List.getElem?_append_right (by simp; omega)]
    simpa [show 10 * (k + 1) + j - 10 = 10 * k + j by omega] using this

end Sys2Proof.Machine
end

