-- ==== Sys2Proof/Laws/Geometry.lean ====
section
/-!
SUPPORT. The geometry of the surface: the mappings of R2 run both ways, neighbours on two tiles have stations of
different parity (R5), and the two coils of a probe pair are not adjacent (R3).
-/

namespace Sys2Proof.Machine

/-- R2: from station and local index to the surface and back. -/
theorem surfaceIndex_back : ∀ st c : Fin 8,
    surfaceIndex st c < 64 ∧ ownerOf (surfaceIndex st c) = st ∧ localOf (surfaceIndex st c) = c := by
  decide

/-- R2: from the surface to station and local index and back. -/
theorem surfaceIndex_of_parts : ∀ i : Fin 64, surfaceIndex (ownerOf i.val) (localOf i.val) = i.val := by
  decide

/-- R2, R6: an own coil is owned by the station. -/
@[simp] theorem State.ownerOf_ownIndex (s : State) (c : Fin 8) : ownerOf (s.ownIndex c) = s.station :=
  (surfaceIndex_back s.station c).2.1

@[simp] theorem State.localOf_ownIndex (s : State) (c : Fin 8) : localOf (s.ownIndex c) = c :=
  (surfaceIndex_back s.station c).2.2

/-- R73: an own entry is always fresh, and is read as its blocks hold it. -/
theorem State.entry_ownIndex (s : State) (c : Fin 8) : s.entry (s.ownIndex c) = s.ownEntry c := by
  simp [State.entry, State.freshEntry, State.freshStation, State.heldEntry]

/-- R5: two stations with adjacent coils have different parities, so they probe after crossings of different polarity. -/
theorem adjacent_tiles_differ : ∀ st tt : Fin 8, st ≠ tt →
    (eight.any fun c => eight.any fun d => adjacent (surfaceIndex st c) (surfaceIndex tt d)) = true →
    (st.val / 4 + st.val % 4) % 2 ≠ (tt.val / 4 + tt.val % 4) % 2 := by
  decide +kernel

/-- R3, Table 3-2: no probe pair holds two adjacent coils. -/
theorem pairs_are_apart : ∀ (st : Fin 8) (p : Fin 4),
    adjacent (surfaceIndex st (pairCoils p).1) (surfaceIndex st (pairCoils p).2) = false := by
  decide

end Sys2Proof.Machine
end

