-- ==== Sys2Proof/Tests/Slice0.lean ====
section
/-!
SUPPORT. Tests. The first part refuses an ill-formed command for each check of WellFormed. The second compares the model
with the worked sequences and tables of spec/, each named in its comment. The third shows, for every statement with
hypotheses, a state and operands that meet them (`witness_…`).
-/

namespace Sys2Proof.Machine

/-! ### Ill-formed commands -/

/-- R88: pan IDs run from 1 to 127. -/
theorem test_wf_refuses_pan_id_0 : (Instr.settleTimerEnd 0 0).wf = false := by decide
theorem test_wf_refuses_pan_id_128 : (Instr.stableTimerEnd 0 128).wf = false := by decide
theorem test_wf_refuses_period_of_pan_0 : (Instr.switchingPeriodStart 0 0 (.all []) (.all 0)).wf = false := by decide
theorem test_wf_refuses_lifted_of_pan_200 : (Instr.liftedTimerEnd 0 200).wf = false := by decide
theorem test_wf_refuses_age_of_pan_0 : (Instr.lastHeardAgeExpiry 0 0).wf = false := by decide
theorem test_wf_refuses_pan_period_of_pan_0 : (Instr.panPeriodTimerEnd 0 0).wf = false := by decide
theorem test_wf_refuses_pan_spacing_of_pan_128 : (Instr.panSpacingTimerEnd 0 128).wf = false := by decide
theorem test_wf_takes_pan_id_127 : (Instr.settleTimerEnd 0 127).wf = true := by decide

/-- R31: half-waves come in the order of their starts, in either coil's reading. -/
theorem test_wf_refuses_half_waves_out_of_order :
    (Instr.probeSlotClose 0 ⟨[⟨true, 200⟩, ⟨true, 100⟩], false⟩ ⟨[], false⟩).wf = false := by decide
theorem test_wf_refuses_half_waves_of_the_higher_coil :
    (Instr.probeSlotClose 0 ⟨[], false⟩ ⟨[⟨true, 100⟩, ⟨true, 100⟩], false⟩).wf = false := by decide

/-- R166: sixteen samples of a coil at most, in each command that carries samples. -/
theorem test_wf_refuses_a_seventeenth_sample :
    let samples : Oct (List Sample) := (Oct.all []).set 3 (List.replicate 17 ⟨0, 0⟩)
    (Instr.zcEdge 0 .rising samples).wf = false ∧ (Instr.driveSpanClose 0 samples).wf = false ∧
    (Instr.switchingPeriodStart 0 20 samples (.all 0)).wf = false ∧ (Instr.trackingPass 0 samples).wf = false ∧
    (Instr.allocationPassEnd 0 samples).wf = false ∧ (Instr.driveSpanClose 0 (.all [])).wf = true := by decide

/-- The table gives no row any bits, so no word spells a command. -/
theorem test_no_word_spells_a_command : decodeTableWord 8 255 = none := by decide

/-! ### A state to test on: station 2 of 7.9, with its two pans -/

/-- A coil that has settled: discard and first result done, coverage `q`. -/
def probed (q : Nat) : CoilProbe :=
  { CoilProbe.reset 24 with discardDone := true, firstResult := true, tb := some 2480, q := q
                            tres := if q = 0 then none else some 2400 }

/-- A covered entry of another tile. -/
def covering (q label : Nat) : Entry := { q := q, condition := .covered, band := .normal, label := label, driving := true }

/-- A heating record of 7.9. -/
def heating (id level anchor ws : Nat) (role : Role) (holder : Fin 8) : PanRecord :=
  { id := id, role := role, holder := holder, state := .heating, level := level, anchor := anchor, box := none
    wp := ws, ws := ws, settle := none, stable := none, lifted := none, age := 100, withdrawn := false
    period := none, spacing := none, change := false, refused := false, requested := none, tp := none
    tpNext := none }

/-- The members among the eight coils. -/
def coils (cs : List (Fin 8)) : Oct Bool := .ofFn fun c => cs.contains c

/-- A group record of the drive unit. -/
def record (id : Nat) (st : GroupState) (cs : List (Fin 8)) (n : Nat) (on : Bool) (period : Option Nat) : GroupRecord :=
  { id := id, state := st, members := coils cs, target := 512, n := n, offset := 10, offsetPending := none
    sum := 16000, on := on, period := period, begun := 1279998000, endedAt := none }

/-- Station 2 (TCOL 2, TROW 0) before its tick of 8.7.1: joined, in OK, armed, panel present and enabled. -/
def busy : State :=
  let s : State := { State.reset with
    straps := { tcol := 2, trow := 0, supply := .a, budget := 0, coilType := 0 }
    clock := 20000000
    mtu := { Mtu.reset with
      mains := .ok, last := 19999000, polarity := .rising, crossed := true, realSeen := true, goodRun := 8
      index := 15, windowStart := 19839000, drive := .ahead, tracking := .ahead }
    prb := { Prb.reset 24 with
      coils := { c0 := probed 4, c1 := probed 0, c2 := probed 4, c3 := probed 4
                 c4 := probed 4, c5 := probed 0, c6 := probed 2, c7 := probed 4 }
      inFlight := some { pair := 1, fired := true } }
    tbi := { Tbi.reset with link := .joined, listen := none, report := some 100, rx := .idle }
    svw := { Svw.reset with
      entries := (Svw.reset.entries.set 1 ((Oct.all Entry.reset).set 3 (covering 4 20))).set 3
        (((Oct.all Entry.reset).set 0 (covering 3 35)).set 4 (covering 1 35))
      rows := (Svw.reset.rows.set 1 { PeerRow.reset with claim := 1500, demand := 1500 }).set 3
        { PeerRow.reset with claim := 425, demand := 425 }
      ages := (Svw.reset.ages.set 1 (some 350)).set 3 (some 10)
      fresh := (Svw.reset.fresh.set 1 true).set 3 true }
    ptk := { Ptk.reset with
      labels := { c0 := 20, c1 := 0, c2 := 35, c3 := 35, c4 := 20, c5 := 0, c6 := 35, c7 := 35 }
      registry := [heating 20 8 7 12 .shared 1, heating 35 11 10 16 .held 2], seq := 3 }
    lau := { Lau.reset with
      panelAge := some 5, present := true, enable := true, demand := 1875
      groups := [{ id := 20, members := coils [0, 4], target := 600, scaled := 448 }] }
    bgu := { claim := 1400 }
    fqu := { Fqu.reset with
      members := .ofFn fun c => if c = 0 ∨ c = 4 then some (Member.start (some 2400)) else none }
    drv := { records := [record 20 .started [0, 4] 2 true none, record 35 .waiting [2, 3, 6, 7] 0 false none]
             coils := .ofFn fun c => { CoilDrive.reset with driving := c == 0 || c == 4 } }
    prt := { Prt.reset true false with bands := (Oct.all Band.normal).set 7 .warm } }
  s.refreshPeriod

/-- The state after a command, where there is one. -/
def after (i : Instr) (s : State) : State :=
  match exec i s with
  | .next t => t
  | _ => s

/-- A reading of `n` half-waves above the threshold with ring period `p`. -/
def ring (n p : Nat) : ProbeReading :=
  { waves := (List.range n).map (fun k => { above := true, start := 100 + k * p / 2 }), lowCurrent := false }

/-- The envelope of a frame whose check is right. -/
def envelope (cls : Nat) (source : Fin 16) (payload : List Byte) : Envelope :=
  { source := source, last := true, check := crc (arbitrationByte cls source.val true :: payload) }

/-! ### Worked sequences of the manual -/

/-- Table 2-6, crossing 9: the good run reaches 8, the state becomes OK and the index 0. -/
theorem test_startup_enters_ok :
    let m : Mtu := { Mtu.reset with
      last := 73200, polarity := .falling, crossed := true, realSeen := true, goodRun := 7, index := 8 }
    let t := m.real 83200 .rising
    t.mains = .ok ∧ t.index = 0 ∧ t.goodRun = 8 ∧ t.windowStart = 83200 := by decide

/-- Table 2-2, rows 2 to 4: bad spacing, in range, polarity repeat. -/
theorem test_edges_are_classified :
    let m : Mtu := { Mtu.reset with crossed := true, realSeen := true, goodRun := 3 }
    ((m.real 4500 .rising).h, (m.real 4500 .rising).goodRun) = (10000, 0) ∧
    ((m.real 9870 .rising).h, (m.real 9870 .rising).goodRun) = (9870, 4) ∧
    ((m.real 9870 .falling).h, (m.real 9870 .falling).goodRun) = (10000, 0) := by decide

/-- Table 2-7: the third synthesized crossing, at 37,500, brings LOST with index 8. -/
theorem test_third_synthesized_crossing_is_lost :
    let m : Mtu := { Mtu.reset with
      last := 25000, polarity := .rising, crossed := true, realSeen := true, synthRun := 2, mains := .ok, index := 7 }
    m.deadline = 37500 ∧ (m.synthesized 37500).mains = .lost ∧ (m.synthesized 37500).index = 8 ∧
      (m.synthesized 37500).polarity = .falling := by decide

/-- R9, R16: the deadlines at the ends of the range of H. -/
theorem test_deadlines : ({ Mtu.reset with h := 7000 } : Mtu).deadline = 8750 ∧
    ({ Mtu.reset with h := 11500 } : Mtu).deadline = 14375 := by decide

/-- R35: the manual's examples at E = 24. -/
theorem test_raw_coverage : rawCoverage 24 14 = 2 ∧ rawCoverage 24 4 = 4 ∧ rawCoverage 24 24 = 0 := by decide

/-- R37: reported 0 with 3, 4, 3 gives 3; reported 4 with 1, 3, 2 gives 2; reported 2 with 3, 1 holds 1. -/
theorem test_debounce : debounce 0 [3, 4] 3 = (3, []) ∧ debounce 4 [1, 3] 2 = (2, []) ∧ debounce 2 [3] 1 = (2, [1]) := by
  decide

/-- R31, R32: ten half-waves of period 2,400 give ring count 10 and ring period 2,400; five leave it unmeasured. -/
theorem test_ring : ringCount (ring 10 2400).waves = 10 ∧ ringPeriod (ring 10 2400).waves = some 2400 ∧
    ringPeriod (ring 5 2400).waves = none := by decide

/-- R34: a coil's first probe is its discard probe and gives no coverage. -/
theorem test_discard_probe : ((CoilProbe.reset 24).close busy.straps (ring 10 2400)).1.tb = some 2400 ∧
    ((CoilProbe.reset 24).close busy.straps (ring 10 2400)).1.firstResult = false := by decide

/-- Table 1-3: the coils of other tiles that face station 2's own coils. -/
theorem test_facing_coils : facingCoils 2 = [7, 12, 23, 28, 40, 41, 42, 43] := by decide +kernel

/-- Table 4-1: arbitration values of a LEVEL from 15, a PAN from 2 and a STATUS from 1. -/
theorem test_arbitration_values : (arbitrationByte 1 15 true).toNat / 2 = 31 ∧ (arbitrationByte 2 2 true).toNat / 2 = 34 ∧
    (arbitrationByte 3 1 true).toNat / 2 = 49 := by decide

/-- 7.9.1 with 8.7.1: targets 600 and 1,275, demand 1,875, claim 1,600, scaled targets 512 and 1,088. -/
theorem test_allocation_of_7_9_1 :
    (busy.startPass.lau.pass.map fun p => (p.demand, p.claim, p.groups.map fun g => (g.id, g.target, g.scaled))) =
      some (1875, 1600, [(20, 600, 512), (35, 1275, 1088)]) := by decide +kernel

/-- 8.7.2 and 8.7.3: yield to 1,400 and overshoot to 1,585. -/
theorem test_review_yield_and_overshoot : review 3680 1600 1875 [(1500, 2200), (425, 425)] = 1400 ∧
    review 3680 1600 1875 [(1700, 1700), (425, 425)] = 1585 := by decide

/-- Table 8-4, reviews 2 and 4. -/
theorem test_two_starved_stations : review 3680 1400 1875 [(1300, 2200), (425, 425)] = 1226 ∧
    review 3680 1226 1875 [(1226, 2200), (425, 425)] = 1426 := by decide

/-- Table 9-2: the first block lowers the limit to 2,092, the second raises it by 4, a hard switch takes 32. -/
theorem test_margin_blocks :
    let x : Member := { l0 := 2100, l := 2100, count := 0, sum := 0, negative := false, hard := 0 }
    let y := (((x.addMargin 22).addMargin 18).addMargin 17).addMargin 19
    let z := (((y.addMargin 51).addMargin 49).addMargin 50).addMargin 47
    y.l = 2092 ∧ z.l = 2096 ∧ z.hardSwitch.l = 2064 ∧ ({ z with l := 2050 } : Member).hardSwitch.l = 2036 := by decide

/-- R141: Tres 2,400 gives L0 2,100; unmeasured gives 853 with range 853 to 917. -/
theorem test_starting_limits : startingLimit (some 2400) = 2100 ∧ rangeLow 2100 = 2036 ∧ rangeHigh 2100 = 2164 ∧
    startingLimit none = 853 ∧ rangeLow 853 = 853 ∧ rangeHigh 853 = 917 := by decide

/-- Table 9-3: n ≤ 12 lowers the want, 16 and short of target raises it, 16 within the threshold holds it. -/
theorem test_want : wantAfter 2100 [(2, 908, 68)] = 2084 ∧ wantAfter 2004 [(16, 88, 68)] = 2020 ∧
    wantAfter 2020 [(16, 28, 68)] = 2020 := by decide

/-- Table 10-3: the ON half-cycles of pan 20's group at offset 10. -/
theorem test_patterns : (List.range 16).filter (fun h => patternOn h 10 2) = [5, 13] ∧
    (List.range 16).filter (fun h => patternOn h 10 10) = [1, 2, 4, 5, 7, 9, 10, 12, 13, 15] := by decide

/-- Table 10-4, windows 1, 4, 6 and 7. -/
theorem test_density_loop : densityAfter 2 412 32 = 4 ∧ densityAfter 8 112 32 = 9 ∧ densityAfter 10 12 32 = 10 ∧
    measuredPower 79950 160000 = 500 ∧ loopThreshold 400 = 25 ∧ densityAfter 10 (-100) 25 = 9 := by decide

/-- 10.8: station 2's groups with masters 0, 2 and 3. -/
theorem test_stagger : staggerOffset 2 0 = 10 ∧ staggerOffset 2 2 = 0 ∧ staggerOffset 2 3 = 3 := by decide

/-- Table 11-4: the bands of coil 5. -/
theorem test_bands :
    ([248, 252, 270, 293, 260, 231, 230, 355, 240] : List Int).foldl
      (fun (l : List Band) r => l ++ [bandAfter (l.getLastD .normal) r]) [] =
    [.normal, .warm, .warm, .hot, .hot, .hot, .normal, .sensor, .normal] := by decide

/-- 11.6, step 1: the first trip leaves TRIPPED with the claim at 0 and every record removed. -/
theorem test_first_trip : (after (.trip 0) busy).prt.state = .tripped ∧ (after (.trip 0) busy).bgu.claim = 0 ∧
    (after (.trip 0) busy).drv.records = [] := by decide +kernel

/-- R170: a trip 2,100 ms after the last locks. -/
theorem test_second_trip_locks :
    (after (.trip 0) { busy with prt := { busy.prt with sinceTrip := some 2100 } }).prt.state = .locked := by
  decide +kernel

/-- 10.8, R157: at the window start the group of pan 35 starts at density 2 and offset 0. -/
theorem test_window_start : (after (.zcEdge 9000 .falling (.all [])) busy).drv.records.map
    (fun r => (r.id, r.state, r.n, r.offset)) = [(20, .started, 4, 10), (35, .started, 2, 0)] := by decide +kernel

/-- Table 4-3: level 15 is taken as 14, label 128 or more as 0, want 3,201 as 3,200, applied period 0 as 853. -/
theorem test_clamps : clampLevel 15 = 14 ∧ clampPeriod 3201 = some 3200 ∧ clampPeriod 0 = none ∧
    clampPeriod 852 = some 853 ∧ decodePanCode 9 = .live .idle ∧ decodeCondition 6 = .object ∧
    decodeProtection 3 = .locked := by decide

/-- R116, R119: a BEACON with enable 0 zeroes the targets, an ALL-OFF the level of the held pan. -/
theorem test_beacon_off : (after (.beacon 0 (envelope 4 15 [0#8, 0#8]) ⟨#[0#8, 0#8], rfl⟩) busy).lau.groups.map
    (fun g => (g.target, g.scaled)) = [(0, 0)] := by decide +kernel

theorem test_all_off : (after (.allOff 0 (envelope 0 15 [])) busy).ptk.registry.map (fun r => (r.level, r.state)) =
    [(0, .heating), (0, .idle)] := by decide +kernel

/-- R117: level 0 for pan 35 brings it to IDLE. -/
theorem test_level : ((after (.level 0 (envelope 1 15 [35#8, 0#8]) ⟨#[35#8, 0#8], rfl⟩) busy).record? 35).map
    (fun r => (r.level, r.state)) = some (0, .idle) := by decide +kernel

/-- R117: level 0 for a held pan that is HEATING at level 0 changes nothing, and an ALL-OFF brings it to IDLE (R119). -/
theorem test_level_as_it_was :
    let s : State := { busy with ptk := { busy.ptk with registry := [{ heating 35 11 10 16 .held 2 with level := 0 }] } }
    ((after (.level 0 (envelope 1 15 [35#8, 0#8]) ⟨#[35#8, 0#8], rfl⟩) s).record? 35).map (·.state) = some .heating ∧
      ((after (.allOff 0 (envelope 0 15 [])) s).record? 35).map (·.state) = some .idle := by decide +kernel

/-- R166: sixteen samples of 20 A at 300 V over a period of 2,000 counts (31.25 µs) are 187.5 mJ; of further samples in the
same period none is taken. -/
theorem test_energy_of_one_period :
    let d : CoilDrive := { CoilDrive.reset with inPeriod := true, len := 2000 }
    (d.addSamples (List.replicate 16 ⟨20000, 300⟩)).acc = 192000000000 ∧ 192000000000 / unitsPerMillijoule = 187 ∧
    ((d.addSamples (List.replicate 12 ⟨20000, 300⟩)).addSamples (List.replicate 9 ⟨20000, 300⟩)).acc = 192000000000 := by
  decide

/-- R92, R119: a HELD record in HEATING whose level an ALL-OFF had set to 0 before it became HELD enters IDLE. -/
theorem test_held_heating_at_level_0 :
    let s : State := { busy with ptk := { busy.ptk with registry := [heating 35 0 10 16 .held 2] } }
    (after (.allOff 0 (envelope 0 15 [])) s).ptk.registry.map (fun r => (r.level, r.state)) = [(0, .idle)] := by
  decide +kernel

/-- R159: a record that became ENDING at the crossing's own instant is removed at the following crossing. -/
theorem test_ending_at_the_crossing :
    let ending (ended : Nat) : State := { busy with drv := { busy.drv with
      records := [{ record 20 .ending [0, 4] 0 true none with endedAt := some ended }] } }
    ((after (.zcEdge 9000 .falling (.all [])) (ending 20009000)).drv.records.map (·.id)) = [20] ∧
    ((after (.zcEdge 9000 .falling (.all [])) (ending 20008999)).drv.records.map (·.id)) = [] := by decide +kernel

/-- R84, R95: an entry into LISTEN with two fresh stations gives three triggers, so a further pass is due. -/
theorem test_listen_gives_a_notice_per_station : busy.enterListen.ptk.running = true ∧
    busy.enterListen.ptk.further = true := by decide +kernel

/-- R97: pan 35 on own coil 5, settling and touching settling pan 20 on own coil 4, is merged into it. -/
def touching : State := { busy with
  prb := { busy.prb with coils := busy.prb.coils.set 5 (probed 4) }
  ptk := { busy.ptk with
    labels := { c0 := 20, c1 := 0, c2 := 0, c3 := 0, c4 := 20, c5 := 35, c6 := 0, c7 := 0 }
    registry := [{ heating 20 8 7 12 .shared 1 with state := .settling },
      { heating 35 11 25 16 .held 2 with state := .settling }] } }

theorem test_settling_merge : (touching.mergePan 35).ptk.labels.get 5 = 20 ∧
    (touching.mergePan 35).ptk.registry.map (·.id) = [20] := by decide +kernel

/-! ### Witnesses -/

/-- Station 2 in reset. -/
def held : State := { busy with inReset := true }

theorem witness_in_reset : held.inReset = true := by decide

theorem witness_reset_cause : busy.inReset = false ∧
    ∀ i ∈ [Instr.resetEntry .resetPin, .brownOutInReset], i.leavesReset = false := by decide

theorem witness_queue : ({ busy with pending := [.trip 0] } : State).pending = .trip 0 :: [] := rfl

theorem witness_timers : busy.inReset = false ∧ busy.tbi.rx ≠ .waitIdle := by decide

theorem witness_edge_in_lockout : busy.mtu.crossed = true ∧ busy.clock + 999 < busy.mtu.last + 2000 := by decide

theorem witness_edge_at_the_lockouts_end : busy.mtu.last + 2000 ≤ busy.clock + 1000 := by decide

theorem witness_deadline : busy.mtu.last + 5 * busy.mtu.h / 4 ≤ busy.clock + 11500 := by decide

/-- For the statements about crossings: an edge at which the window index of `busy` becomes 0, with a started and a
waiting group. -/
theorem witness_crossing : busy.Crosses (.zcEdge 9000 .falling (.all [])) 20009000 :=
  ⟨rfl, .inl ⟨9000, .falling, .all [], rfl, rfl, .inr (by decide)⟩⟩

theorem witness_window_end : busy.mtu.drive ≠ .running ∧ busy.mtu.index = 15 ∧ busy.mtu.mains = .ok ∧
    (after (.zcEdge 9000 .falling (.all [])) busy).mtu.mains = .ok ∧
    (after (.zcEdge 9000 .falling (.all [])) busy).mtu.index = 0 ∧
    ∃ r ∈ busy.drv.records, r.state = .started ∧ 1 ≤ r.n ∧ r.n ≤ 16 := by decide +kernel

/-- A station whose only group has ended before the crossing at hand. -/
theorem witness_ending : let r : GroupRecord := { record 20 .ending [0, 4] 0 true none with endedAt := some 20000000 }
    let s : State := { busy with drv := { busy.drv with records := [r] } }
    s.Crosses (.zcEdge 9000 .falling (.all [])) 20009000 ∧ r.state = .ending ∧ r.endedAt ≠ some 20009000 ∧
      r.members.get 4 = true ∧ ∀ x ∈ (after (.zcEdge 9000 .falling (.all [])) s).drv.records, x.state = .waiting :=
  ⟨⟨rfl, .inl ⟨9000, .falling, .all [], rfl, rfl, .inr (by decide)⟩⟩, by decide, by decide, by decide, by decide +kernel⟩

/-- The want at a window end, and a window start at which no other group is started. -/
theorem witness_want : let s : State := { busy with fqu := { busy.fqu with want := some 2100 } }
    let w : State := { busy with drv := { busy.drv with records := [record 35 .waiting [2, 3, 6, 7] 0 false none] } }
    s.fqu.want = some 2100 ∧ (after (.zcEdge 9000 .falling (.all [])) w).mtu.index = 0 ∧ w.tbi.link = .joined ∧
      (after (.zcEdge 9000 .falling (.all [])) w).mtu.mains = .ok ∧ w.prt.state = .armed ∧ w.prt.gateGood = true ∧
      ∀ r ∈ w.drv.records, r.state = .waiting := by decide +kernel

theorem witness_window_start : ∃ r ∈ busy.drv.records, r.state = .waiting ∧ r.members.get 2 = true := by decide

theorem witness_burst : let s : State := { busy with prb := { busy.prb with inFlight := some ⟨1, false⟩ } }
    s.inReset = false ∧ s.prb.inFlight = some ⟨1, false⟩ ∧ s.mtu.last + 100 ≤ s.clock + 0 := by decide

theorem witness_quiet : let s : State := { State.reset with prb := { State.reset.prb with quietTimer := 59999 } }
    s.prb.quiet = false ∧ s.borderCovered = false ∧
      60000 ≤ s.prb.quietTimer + ((s.clock + 1000) / 1000 - s.clock / 1000) := by decide +kernel

/-- R29: at the opening of the slot of pair (1, 7) coil 7 is given eight pulses, and coil 1, whose open flag is on, none. -/
theorem test_open_coil_is_not_struck :
    let s : State := { busy with prb := { busy.prb with
      inFlight := some ⟨1, false⟩, coils := busy.prb.coils.set 1 (probed 0).open_ } }
    eight.map (after (.probeSlotOpen 0) s).probeOutput = [0, 0, 0, 0, 0, 0, 0, 8] ∧
      eight.map s.probeOutput = [0, 0, 0, 0, 0, 0, 0, 0] := by decide +kernel

/-- The slot of pair (1, 7) at its close; coil 7 takes a non-discard reading. -/
theorem witness_slot_close : busy.inReset = false ∧ busy.prb.inFlight = some ⟨1, true⟩ ∧
    busy.mtu.last + 1400 ≤ busy.clock + 400 ∧ (busy.prb.coils.get (pairCoils 1).2).discardDone = true ∧
    (busy.prb.coils.get (pairCoils 1).2).opened = false := by decide

/-- The third low value of coil 7 changes its coverage, while a tracking pass is running. -/
theorem witness_coverage_change : let s : State := { busy with
      prb := { busy.prb with coils := busy.prb.coils.set 7 { probed 4 with pendingRaw := [2, 2] } }
      ptk := { busy.ptk with running := true } }
    ((after (.probeSlotClose 400 (ring 24 2480) (ring 14 2400)) s).prb.coils.get 7).q = 2 ∧
      (s.prb.coils.get 7).q = 4 ∧ s.ptk.running = true ∧ s.tbi.link = .joined := by decide +kernel

theorem witness_open : let s : State := { busy with prb := { busy.prb with
      coils := busy.prb.coils.set 7 { probed 4 with openRun := 2 } } }
    s.prb.inFlight = some ⟨1, true⟩ ∧ 7 = (pairCoils 1).2 ∧ (s.prb.coils.get 7).opened = false ∧
      (s.prb.coils.get 7).discardDone = true ∧ 2 ≤ (s.prb.coils.get 7).openRun := by decide

theorem witness_debounce : (3 : Nat) ≠ 0 ∧ ((0 : Nat) < 4 ↔ (0 : Nat) < 3) ∧ [4].length < 2 := by decide

theorem witness_valley : busy.mtu.crossed = true ∧ busy.mtu.leading = false ∧
    busy.mtu.last + busy.mtu.h ≤ busy.clock + 8500 + 500 := by decide

theorem witness_tracking_open : busy.mtu.tracking = .ahead ∧ busy.mtu.last + 2500 ≤ busy.clock + 1500 ∧
    busy.clock + 1500 + 1500 < busy.mtu.last + busy.mtu.h := by decide

/-- `busy` inside its drive and tracking spans, with pan 20's group in a period. -/
def driving : State := { busy with
  mtu := { busy.mtu with drive := .running, tracking := .running }
  drv := { records := [record 20 .started [0, 4] 2 true (some 2000), record 35 .waiting [2, 3, 6, 7] 0 false none]
           coils := .ofFn fun c => { CoilDrive.reset with
             driving := c == 0 || c == 4
             gates := if c = 0 ∨ c = 4 then some (gateTiming 2000 24) else none
             inPeriod := c == 0 || c == 4, tracked := c == 0 || c == 4, periods := 4 } }
  fqu := { busy.fqu with members := busy.fqu.members.set 0 (some
    { l0 := 2100, l := 2096, count := 2, sum := 28, negative := true, hard := 7 }) } }

theorem witness_tracking_close : driving.mtu.tracking = .running ∧
    driving.mtu.last + driving.mtu.h ≤ driving.clock + 7500 + 1500 := by decide

theorem witness_drive_open : busy.mtu.drive = .ahead ∧ busy.mtu.last + 1500 ≤ busy.clock + 500 ∧
    busy.clock + 500 + 500 < busy.mtu.last + busy.mtu.h ∧
    busy.onRecord? 20 = some (record 20 .started [0, 4] 2 true none) ∧
    (record 20 .started [0, 4] 2 true none).members.get 0 = true := by decide

theorem witness_drive_close : driving.mtu.drive = .running ∧
    driving.mtu.last + driving.mtu.h ≤ driving.clock + 8500 + 500 := by decide

/-- A crossing at window index `i` that comes inside the drive span, with coils 0 and 4 in a period of 2,000 counts. -/
def cut (i : Nat) : State := { driving with
  mtu := { driving.mtu with index := i }
  drv := { driving.drv with coils := .ofFn fun c => { driving.drv.coils.get c with len := 2000 } } }

/-- The edge that cuts the drive span, with sixteen samples of coil 0. -/
def cutEdge : Instr := .zcEdge 9000 .falling ((Oct.all []).set 0 (List.replicate 16 ⟨20000, 300⟩))

theorem witness_cut : ∀ i ∈ [3, 15], (cut i).Crosses cutEdge 20009000 := by
  simp only [List.mem_cons, List.not_mem_nil, or_false, forall_eq_or_imp, forall_eq]
  exact ⟨⟨rfl, .inl ⟨9000, .falling, _, rfl, rfl, .inr (by decide)⟩⟩, rfl, .inl ⟨9000, .falling, _, rfl, rfl, .inr (by decide)⟩⟩

theorem witness_cut_energy : (cut 3).cutEnergy cutEdge (record 20 .started [0, 4] 2 true (some 2000)) = 187 ∧
    (after cutEdge (cut 3)).mtu.index = 4 ∧ (after cutEdge (cut 3)).mtu.mains = .ok ∧
    (cut 3).mtu.crossed = true ∧ (cut 3).mtu.leading = false ∧ (after cutEdge (cut 15)).mtu.index = 0 ∧
    record 20 .started [0, 4] 2 true (some 2000) ∈ (cut 15).drv.records := by decide +kernel

theorem witness_next_period : let s : State := { driving with mtu := { driving.mtu with tracking := .over } }
    s.onRecord? 20 = some (record 20 .started [0, 4] 2 true (some 2000)) ∧ s.mtu.drive = .running ∧
      s.mtu.leading = false ∧ s.mtu.tracking ≠ .running ∧ 1279998000 + 2000 < 64 * (s.clock + 0) + 64 := by decide

/-- A hard-switch event at the eighth count (a margin of -1 in coil 0) and an ordinary margin (coil 4). -/
theorem witness_margins : driving.onRecord? 20 = some (record 20 .started [0, 4] 2 true (some 2000)) ∧
    (driving.drv.coils.get 0).tracked = true ∧ 4 ≤ (driving.drv.coils.get 0).periods ∧
    (driving.fqu.members.get 0).any (fun x => x.negative && x.hard == 7) = true ∧
    (driving.prb.coils.get 0).condition = .covered ∧ (driving.fqu.members.get 4).isSome = true := by decide

theorem witness_conversion : let s : State := { busy with prt := { busy.prt with conversion := some 19999900 } }
    s.prt.conversion = some 19999900 ∧ 19999900 + 400 ≤ s.clock + 300 := by decide

/-- Own coil 5 of pan 20, which is not in the pan's running group, in band `b` as a conversion ends. -/
def besides (b : Band) : State := { busy with
  prb := { busy.prb with coils := busy.prb.coils.set 5 (probed 2) }
  ptk := { busy.ptk with labels := busy.ptk.labels.set 5 20 }
  prt := { busy.prt with bands := busy.prt.bands.set 5 b, conversion := some 19999900 } }

/-- R126, R176: from HOT the coil becomes drivable and joins; from WARM it was drivable and waits for the next tick. -/
theorem test_only_a_coil_that_becomes_drivable_joins :
    (after (.temperatureConversionComplete 300 (.all 100)) (besides .hot)).drv.records.map (·.members.get 5) = [true, false] ∧
      (after (.temperatureConversionComplete 300 (.all 100)) (besides .warm)).drv.records.map (·.members.get 5) = [false, false] ∧
    (besides .hot).drivable 5 = false ∧ (besides .warm).drivable 5 = true ∧
      (after (.temperatureConversionComplete 300 (.all 100)) (besides .hot)).lau.groups.map (·.members.get 5) = [true] ∧
      (after (.temperatureConversionComplete 300 (.all 100)) (besides .warm)).lau.groups.map (·.members.get 5) = [false] := by
  decide +kernel

/-- What O24's and O48's clauses on a coil handed to the drive unit ask of the states before and after. -/
theorem witness_handed_to_drive :
    let t := after (.temperatureConversionComplete 300 (.all 100)) (besides .hot)
    t.drivable 5 = true ∧ t.prt.bands.get 5 ≠ .hot ∧
      t.lau.groups.any (fun g => g.id == 20 && decide (0 < g.scaled)) = true ∧
      ((besides .hot).lau.groups.all fun g => g.id != 20 || !g.members.get 5) = true ∧
      (t.drv.records.any fun r => r.id == 20 && r.state == .started) = true ∧ t.drivableFor 0 = some 20 := by
  decide +kernel

/-- R87, R147, R126: coil 5, UNFIT, is given pan 20's label: the mark goes, and the coil joins the running group. -/
theorem test_new_label_ends_unfit :
    let s : State := { besides .normal with
      prb := { busy.prb with coils := busy.prb.coils.set 5 { probed 2 with unfit := true } }
      ptk := { busy.ptk with labels := busy.ptk.labels.set 5 0 } }
    let t := s.setLabel 5 20
    s.ptk.labels.get 5 ≠ 20 ∧ (s.prb.coils.get 5).condition = .unfit ∧ (t.prb.coils.get 5).condition = .covered ∧
      t.drivable 5 = true ∧ t.drv.records.map (·.members.get 5) = [true, false] ∧ t.tbi.statusQueued = true := by
  decide +kernel

theorem witness_bad_frame : checkMatches 0 { envelope 0 15 [] with check := 0#16 } [] = false ∧
    (envelope 0 14 []).source ≠ 15 := by decide +kernel

/-- A STATUS as another station sends it. -/
def peerStatus : List Byte := encodeStatus State.reset.statusContent

/-- The same as an operand. -/
def peerStatusBytes : Vector Byte 35 := ⟨peerStatus.toArray, by decide +kernel⟩

theorem witness_receives (src : Fin 16) (h : src = 1 ∨ src = 2) : busy.Receives 3 (envelope 3 src peerStatus) peerStatus := by
  refine ⟨rfl, by decide, ?_⟩
  rcases h with rfl | rfl <;> decide +kernel

theorem witness_own_number : busy.Receives 3 (envelope 3 2 peerStatus) peerStatus ∧
    (envelope 3 2 peerStatus).source.val = busy.station.val ∧ busy.tbi.link ≠ .conflict :=
  ⟨witness_receives 2 (.inr rfl), by decide, by decide⟩

theorem witness_status : busy.AcceptsFrom 1 3 (envelope 3 1 peerStatus) peerStatus ∧ ¬ busy.EndsIsolation :=
  ⟨⟨witness_receives 1 (.inl rfl), by decide, by decide⟩, fun h => absurd h.1 (by decide)⟩

theorem witness_all_off : busy.AcceptsPanel 0 (envelope 0 15 []) [] :=
  ⟨⟨rfl, by decide, by decide +kernel⟩, rfl⟩

theorem witness_registry_kept : busy.RegistryKept :=
  ⟨by decide, by decide, by decide, by decide, by decide, by decide⟩

theorem witness_panel_loss : let s : State := { busy with lau := { busy.lau with panelAge := some 1000 } }
    s.lau.present = true ∧ (s.advance 0).lau.panelAge = some 1000 := by decide +kernel

theorem witness_level : busy.AcceptsPanel 1 (envelope 1 15 [35#8, 3#8]) [35#8, 3#8] ∧
    ((busy.advance 0).record? 35).any (fun r => r.role == .held && r.level != 3) = true :=
  ⟨⟨⟨rfl, by decide, by decide +kernel⟩, rfl⟩, by decide +kernel⟩

/-- A held pan at the level that a LEVEL names, and one with its spacing timer stopped and one with it running. -/
theorem witness_level_cases :
    let s : State := { busy with ptk := { busy.ptk with registry := [{ heating 35 11 10 16 .held 2 with spacing := some 3 }] } }
    (busy.record? 35).any (fun r => r.role == .held && r.spacing == none && r.level == 11) = true ∧
      busy.tbi.link = .joined ∧ busy.tbi.slots.length < 8 ∧
      (s.record? 35).any (fun r => r.role == .held && r.spacing == some 3 && r.level == 11) = true := by decide +kernel

theorem witness_beacon : busy.AcceptsPanel 4 (envelope 4 15 [0#8, 1#8]) [0#8, 1#8] :=
  ⟨⟨rfl, by decide, by decide +kernel⟩, rfl⟩

/-- A PAN frame of station 1 for pan `p`, HEATING at level 9 with anchor 7. -/
def peerPan (p : Nat) : List Byte :=
  encodePan { id := p, code := .live .heating, level := 9, anchor := 7, box := none, wp := 12, ws := 12, tp := 900
              remaining := 0 }

theorem witness_pan_frames (p : Nat) (h : p = 17 ∨ p = 20 ∨ p = 35) :
    busy.AcceptsFrom 1 2 (envelope 2 1 (peerPan p)) (peerPan p) ∧ (decodePan (peerPan p)).id = p := by
  rcases h with rfl | rfl | rfl <;>
    exact ⟨⟨⟨rfl, by decide, by decide +kernel⟩, by decide, by decide⟩, by decide +kernel⟩

/-- Pan 17 has no record, pan 20 one that is not held, pan 35 one that is. -/
theorem witness_pan_records : busy.record? 17 = none ∧ busy.ptk.registry.length < 16 ∧
    (busy.record? 20).any (fun r => r.role == .shared) = true ∧
    (busy.record? 35).any (fun r => r.role == .held) = true := by decide

/-- A GONE of station 1 for pan 35, which the station holds. -/
theorem witness_gone :
    let gone := encodePan { id := 35, code := .gone, level := 0, anchor := 7, box := none, wp := 0, ws := 0, tp := 0, remaining := 0 }
    busy.AcceptsFrom 1 2 (envelope 2 1 gone) gone ∧ (decodePan gone).code = .gone ∧
      (busy.record? 35).any (fun r => r.role == .held) = true :=
  ⟨⟨⟨rfl, by decide, by decide +kernel⟩, by decide, by decide⟩, by decide +kernel, by decide⟩

/-- `s` with the records `rs`. -/
def withRecords (s : State) (rs : List PanRecord) : State := { s with ptk := { s.ptk with registry := rs } }

/-- Station 1's frames for pan 35 that leave the holding with station 2 (anchor 63 against 10), in state `st`. -/
def contending (st : PanState) : List Byte :=
  encodePan { id := 35, code := .live st, level := 9, anchor := 63, box := none, wp := 12, ws := 12, tp := 900
              remaining := 0 }

/-- `busy` with every PAN slot held by another pan than 35. -/
def crowded : State := { busy with tbi := { busy.tbi with
  slots := (List.range 8).map fun k => ⟨60 + k, some (heating (60 + k) 3 10 4 .held 2).content, none⟩ } }

theorem witness_contest (s : State) (h : s = busy ∨ s = crowded) (st : PanState) (k : st = .heating ∨ st = .lifted) :
    s.AcceptsFrom 1 2 (envelope 2 1 (contending st)) (contending st) ∧ ¬ s.EndsIsolation ∧ s.tbi.link = .joined ∧
      (decodePan (contending st)).code = .live st ∧ (decodePan (contending st)).anchor = 63 ∧
      (s.record? 35).any (fun r => r.role == .held && r.spacing.isNone && r.state == .heating && r.anchor == 10) = true := by
  rcases h with rfl | rfl <;> rcases k with rfl | rfl <;>
    exact ⟨⟨⟨rfl, by decide, by decide +kernel⟩, by decide, by decide⟩, fun h => absurd h.1 (by decide), rfl,
      by decide +kernel, by decide +kernel, by decide⟩

/-- R90, R111: old news returns the age to 0 and no more; a contest won is a PAN change, which a free slot takes, full slots
refuse, and a running spacing timer holds back. -/
theorem test_contest_won :
    let r : PanRecord := heating 35 11 10 16 .held 2
    let spaced : State := withRecords busy [{ r with spacing := some 5 }]
    let take (st : PanState) (s : State) : State :=
      after (.pan 0 (envelope 2 1 (contending st)) (Vector.ofFn fun k => (contending st).getD k.val 0)) s
    (take .lifted busy).record? 35 = some { r with age := 0 } ∧ (take .lifted busy).tbi.slots = [] ∧
      ((take .heating busy).record? 35).map (fun x => (x.age, x.spacing)) = some (0, some 0) ∧
      (take .heating busy).tbi.slots.map (fun x => (x.id, x.queued)) = [(35, some r.content)] ∧
      ((take .heating crowded).record? 35).map (fun x => (x.age, x.spacing, x.refused)) = some (0, none, true) ∧
      (take .heating spaced).record? 35 = some { r with age := 0, spacing := some 5, change := true } := by
  decide +kernel

/-- `busy` with a full registry: its two pans, and fourteen HEARD ones of which pan 53 has the greatest age. -/
def full : State := { busy with ptk := { busy.ptk with registry := busy.ptk.registry ++ (List.range 14).map fun k =>
  { heating (40 + k) 0 5 4 .heard 1 with age := 500 + k } } }

/-- What may leave a full registry, and a full registry that nothing may leave. -/
theorem witness_full_registry :
    let none_ : State := { busy with ptk := { busy.ptk with registry := (List.range 16).map fun k => heating (40 + k) 0 5 4 .shared 1 } }
    full.ptk.registry.length = 16 ∧ full.record? 17 = none ∧
      (full.ptk.registry.all fun y => y.role != .heard || full.carries y.id || y.id == 53 || decide (y.age < 513)) = true ∧
      (full.record? 53).any (fun x => x.role == .heard && x.age == 513 && !full.carries 53) = true ∧
      none_.ptk.registry.length = 16 ∧ (none_.ptk.registry.all fun y => y.role != .heard) = true := by decide +kernel

theorem witness_transmit_start : busy.tbi.rx = .idle ∧ busy.tbi.tx = none ∧ (busy.tbi.slots.map (·.id)).Nodup := by
  decide

/-- R50: the character of the byte B1H, and the line after eleven and after ten recessive bit times. -/
theorem test_character_bits :
    frameBits [0xB1#8] = [false, true, false, true, true, false, false, false, true, true] ∧
      idleAfter (false :: List.replicate 11 true) = true ∧ idleAfter (false :: List.replicate 10 true) = false := by
  decide

/-- A queued PAN and a queued STATUS. -/
def queued : State := { busy with tbi := { busy.tbi with
  statusQueued := true, slots := [⟨35, some (heating 35 11 10 16 .held 2).content, none⟩] } }

theorem witness_transmit_pan : queued.tbi.slots = [] ++ ⟨35, some (heating 35 11 10 16 .held 2).content, none⟩ :: [] ∧
    queued.tbi.statusQueued = true := by decide

/-- R50: a station that has read another's start bit keeps its frames queued and receives. -/
theorem test_heard_start_bit :
    let t := after (.transmitStart ⟨0, true⟩) queued
    t.tbi.rx = .receiving ∧ t.tbi.tx = none ∧ t.tbi.slots = queued.tbi.slots ∧ t.tbi.statusQueued = true := by
  decide +kernel

/-- A STATUS and a PAN on the line. -/
theorem witness_transmit_end :
    let s : State := { busy with tbi := { busy.tbi with tx := some ⟨none, [], false⟩ } }
    let p : State := { busy with tbi := { busy.tbi with
      tx := some ⟨some 35, [], false⟩, slots := [⟨35, none, some (heating 35 11 10 16 .held 2).content⟩] } }
    s.tbi.tx = some ⟨none, [], false⟩ ∧ s.tbi.link ≠ .isolated ∧ p.tbi.tx = some ⟨some 35, [], false⟩ ∧
      p.tbi.refused = false := by decide

/-- A PAN that leaves the eighth slot while pan 35's request is refused, and an isolated station that has heard no other. -/
theorem witness_renewal :
    let slot := fun (p : Nat) => (⟨p, (heating 35 11 10 16 .held 2).content, none⟩ : PanSlot)
    let s : State := { busy with
      tbi := { busy.tbi with
        refused := true, tx := some ⟨some 34, [], false⟩
        slots := ⟨34, none, some (heating 35 11 10 16 .held 2).content⟩ :: [36, 37, 38, 39, 40, 41, 42].map slot }
      ptk := { busy.ptk with registry := [{ heating 35 11 10 16 .held 2 with refused := true }] } }
    let i : State := { busy with tbi := { busy.tbi with link := .isolated, tx := some ⟨none, [], false⟩ } }
    s.tbi.refused = true ∧ s.tbi.link = .joined ∧ (s.ptk.registry.map (·.id)).Pairwise (· < ·) ∧
      (s.tbi.slots.filter fun y => y.line.isSome).length = 1 ∧ (s.tbi.slots.all fun y => y.id != 35) = true ∧
      i.tbi.link = .isolated ∧ i.tbi.heardOther = false := by decide

theorem witness_report : busy.tbi.link = .joined ∧ (busy.advance 0).tbi.report = some 100 := by decide +kernel

theorem witness_bus_timers :
    let s : State := { busy with tbi := { busy.tbi with spacing := some 20, change := true } }
    let c : State := { busy with tbi := { busy.tbi with link := .conflict, conflict := some 1000 } }
    let w : State := { busy with tbi := { busy.tbi with rx := .waitIdle } }
    (s.advance 0).tbi.spacing = some 20 ∧ (c.advance 0).tbi.conflict = some 1000 ∧ w.tbi.rx = .waitIdle ∧
      w.tbi.tx = none := by decide +kernel

/-- `busy` while it still listens. -/
def listening : State := { busy with tbi := { busy.tbi with link := .listen, listen := some 300, report := none } }

theorem witness_join : listening.tbi.link = .listen ∧ (listening.advance 0).tbi.listen = some 300 ∧
    listening.mtu.mains = .ok ∧ ∀ c, (listening.prb.coils.get c).firstResult = true := by decide +kernel

/-- One HELD record and an empty line of slots; nine HELD records, of which eight find room. -/
theorem test_joining_requests_the_held_pans :
    let nine : State := withRecords listening ((List.range 9).map fun k => heating (35 + k) 5 10 4 .held 2)
    (listening.ptk.registry.map (·.id)).Pairwise (· < ·) ∧ (nine.ptk.registry.map (·.id)).Pairwise (· < ·) ∧
      listening.tbi.slots = [] ∧
      (after (.listenTimerEnd 0) listening).tbi.slots.map (·.id) = [35] ∧
      (after (.listenTimerEnd 0) nine).tbi.slots.map (·.id) = [35, 36, 37, 38, 39, 40, 41, 42] ∧
      (after (.listenTimerEnd 0) nine).ptk.registry.map (·.refused) = (List.replicate 8 false) ++ [true] := by
  decide +kernel

theorem witness_join_at_crossing :
    let s : State := { listening with
      mtu := { listening.mtu with mains := .lost, goodRun := 7 }
      tbi := { listening.tbi with listenEnded := true } }
    s.Crosses (.zcEdge 9000 .falling (.all [])) 20009000 ∧ s.tbi.listenEnded = true :=
  ⟨⟨rfl, .inl ⟨9000, .falling, .all [], rfl, rfl, .inr (by decide)⟩⟩, rfl⟩

/-- The slot of pair (1, 7) brings the first result of coil 7, the last one, and in the second state leaves coil 0's open. -/
theorem witness_join_at_slot_close :
    let unprobed : CoilProbe := { probed 4 with firstResult := false }
    let s : State := { listening with
      tbi := { listening.tbi with listenEnded := true }
      prb := { listening.prb with coils := listening.prb.coils.set 7 unprobed } }
    let u : State := { s with prb := { s.prb with coils := s.prb.coils.set 0 unprobed } }
    let close : Instr := .probeSlotClose 400 (ring 24 2480) (ring 14 2400)
    s.prb.inFlight = some ⟨1, true⟩ ∧ s.tbi.link = .listen ∧ s.mtu.mains = .ok ∧
      (∀ c, ((after close s).prb.coils.get c).firstResult = true) ∧
      ((after close u).prb.coils.get 0).firstResult = false := by decide +kernel

theorem witness_silence : let s : State := { busy with tbi := { busy.tbi with silence := 250 } }
    s.tbi.link = .joined ∧ (s.advance 0).tbi.silence = 250 := by decide +kernel

theorem witness_stall : let s : State := { queued with tbi := { queued.tbi with stall := 250 } }
    s.tbi.link = .joined ∧ (s.advance 0).tbi.stall = 250 ∧ s.tbi.statusQueued = true := by decide +kernel

/-- `busy` isolated, its own STATUS sent. -/
def isolated : State := { busy with tbi := { busy.tbi with
  link := .isolated, ownSent := true, heardOther := true, tx := none } }

theorem witness_end_of_isolation : isolated.tbi.link = .isolated ∧ isolated.tbi.ownSent = true ∧
    checkMatches 4 (envelope 4 15 [0#8, 1#8]) [0#8, 1#8] = true ∧ isolated.tbi.rx ≠ .waitIdle := by decide +kernel

theorem witness_end_of_isolation_by_status :
    isolated.AcceptsFrom 1 3 (envelope 3 1 peerStatus) peerStatus ∧ isolated.EndsIsolation :=
  ⟨⟨⟨rfl, by decide, by decide +kernel⟩, by decide, by decide⟩, by decide, by decide⟩

theorem witness_end_of_isolation_by_success :
    let s : State := { isolated with tbi := { isolated.tbi with tx := some ⟨none, [], false⟩ } }
    s.tbi.heardOther = true ∧ s.tbi.tx = some ⟨none, [], false⟩ := by decide

theorem witness_fresh_when_isolated : (1 : Fin 8) ≠ isolated.station ∧ isolated.svw.fresh.get 1 = true := by decide

theorem witness_stale : (1 : Fin 8) ≠ busy.station ∧ busy.svw.fresh.get 1 = true ∧
    (busy.advance 0).svw.ages.get 1 = some 350 := by decide +kernel

/-- Two entries of the surface period: the own one and station 1's. -/
theorem witness_surface_period : let s : State := { busy with
      fqu := { busy.fqu with limit := some 2100, want := some 2150 }
      svw := { busy.svw with rows := busy.svw.rows.set 1 { PeerRow.reset with
        limit := some 2000, want := some 2200, mains := .ok } } }
    s.periodEntries = [(2100, 2150), (2000, 2200)] ∧ surfacePeriod s.periodEntries = 2000 := by decide +kernel

theorem witness_tracking_pass : let s : State := { busy with ptk := { busy.ptk with running := true } }
    s.ptk.running = true ∧ s.RegistryKept :=
  ⟨rfl, by decide, by decide, by decide, by decide, by decide, by decide⟩

/-- A pass that finds pan 20's record withdrawn. -/
theorem witness_withdrawn : let s : State := { busy with ptk := { busy.ptk with
      registry := busy.ptk.registry.map fun r => { r with withdrawn := r.id == 20 } } }
    s.RegistryKept ∧ ∃ r ∈ s.ptk.registry, r.withdrawn = true ∧ r.id = s.ptk.labels.get 0 :=
  ⟨⟨by decide, by decide, by decide, by decide, by decide, by decide⟩, by decide⟩

/-- `busy` with one record in the registry. -/
def withPan (r : PanRecord) : State := withRecords busy [r]

/-- Stage 6: pan 35 has its lowest coil on the own tile, pan 20 on that of station 1 and, in `far`, no own coil; each may be
held before or not. A record of pan 50 has no footprint. -/
theorem witness_footprints :
    let far : State := { busy with ptk := { busy.ptk with labels := (busy.ptk.labels.set 0 0).set 4 0 } }
    (busy.footprint 35).head? = some 10 ∧ ownerOf 10 = busy.station ∧
      busy.record? 35 = some (heating 35 11 10 16 .held 2) ∧
      (withPan (heating 35 11 10 16 .shared 1)).record? 35 = some (heating 35 11 10 16 .shared 1) ∧
      (busy.footprint 20).head? = some 7 ∧ ownerOf 7 ≠ busy.station ∧ busy.carries 20 = true ∧
      (far.footprint 20).head? = some 7 ∧ far.carries 20 = false ∧
      ∀ role ∈ [Role.held, .shared, .heard],
        (withPan (heating 50 0 10 16 role 2)).record? 50 = some (heating 50 0 10 16 role 2) ∧
          (withPan (heating 50 0 10 16 role 2)).footprint 50 = [] := by decide +kernel

theorem witness_box : (busy.boxOf 35).isSome = true ∧ busy.boxOf 50 = none := by decide +kernel

theorem witness_merge : touching.RegistryKept ∧ touching.carries 35 = true ∧ touching.mergeTarget 35 = some 20 :=
  ⟨⟨by decide, by decide, by decide, by decide, by decide, by decide⟩, by decide, by decide +kernel⟩

/-- Own coil 5 of `busy`, covered and not labelled, and pan 20, which one neighbour of it carries. -/
theorem witness_propagation :
    let s : State := { busy with prb := { busy.prb with coils := busy.prb.coils.set 5 (probed 1) } }
    s.ptk.labels.get 5 = 0 ∧ (s.ownEntry 5).covered = true ∧ s.MayTake [] 5 20 :=
  ⟨by decide, by decide, by decide, by decide +kernel, by simp, by decide, by decide, .inr (by decide +kernel)⟩

/-- The same coil, with no record of pan 20. -/
theorem witness_propagation_without_record :
    let s : State := { busy with
      prb := { busy.prb with coils := busy.prb.coils.set 5 (probed 1) }
      ptk := { busy.ptk with registry := [heating 35 11 10 16 .held 2] } }
    s.record? 20 = none ∧ s.MayTake [] 5 20 :=
  ⟨by decide, by decide, by decide +kernel, by simp, .inl (by decide)⟩

/-- The lowest coil of pan 35 and its neighbour on the tile. -/
theorem witness_joined : busy.JoinedToLowest 35 11 :=
  ⟨10, by decide, by decide, by decide +kernel, by decide +kernel,
    .tail .refl ⟨by decide, by decide, by decide, by decide +kernel⟩⟩

/-- Own coils 2, 3, 6 and 7 of `busy` with no label: a cluster of weight 14, its lowest coil at index 10, which becomes a
new pan, or resumes pan 35, lifted at that anchor. -/
def unlabelled : State := { busy with ptk := { busy.ptk with
  labels := { c0 := 20, c1 := 0, c2 := 0, c3 := 0, c4 := 20, c5 := 0, c6 := 0, c7 := 0 }
  registry := [{ heating 35 11 10 16 .held 2 with state := .lifted, lifted := some 400 }] } }

theorem witness_cluster : unlabelled.unlabelledCovered 10 = true ∧
    ((unlabelled.cluster 10).all fun j => decide (10 ≤ j)) = true ∧
    3 ≤ ((unlabelled.cluster 10).map fun j => (unlabelled.entry j).q).sum ∧ (unlabelled.resumable 10).isSome = true ∧
    (unlabelled.ptk.registry.map (·.id)).Pairwise (· < ·) := by decide +kernel

/-- The sequence at 3 with IDs 36 and 37 in use, and with every ID in use. -/
theorem witness_new_pan :
    let s : State := { busy with ptk := { busy.ptk with registry := [36, 37].map fun p => heating p 0 5 4 .heard 1 } }
    let f : State := { busy with ptk := { busy.ptk with registry := (List.range 15).map fun k => heating (33 + k) 0 5 4 .heard 1 } }
    s.nextSequence = some 6 ∧ s.ptk.registry.length < 16 ∧ f.nextSequence = none := by decide

theorem witness_settle :
    let r : PanRecord := { heating 35 11 10 16 .held 2 with state := .settling, settle := some 1000 }
    ((withPan r).advance 0).record? 35 = some r := by decide +kernel

theorem witness_stable :
    let r : PanRecord := { heating 35 11 10 16 .held 2 with stable := some 1000 }
    ((withPan r).advance 0).record? 35 = some r := by decide +kernel

theorem witness_lifted :
    let r : PanRecord := { heating 35 11 10 16 .held 2 with state := .lifted, lifted := some 6000 }
    ((withPan r).advance 0).record? 35 = some r ∧ (withPan r).tbi.slots.length < 8 := by decide +kernel

theorem witness_last_heard :
    let r : PanRecord := { heating 35 11 10 16 .heard 2 with age := 1000 }
    ((withPan r).advance 0).record? 35 = some r := by decide +kernel

theorem witness_pan_timers :
    let r : PanRecord := { heating 35 11 10 16 .held 2 with period := some 250, spacing := some 20, change := true }
    ((withPan r).advance 0).record? 35 = some r ∧ (withPan r).tbi.link = .joined := by decide +kernel

theorem witness_pan_change : let r : PanRecord := heating 35 11 10 16 .held 2
    (withPan r).record? 35 = some r ∧ (withPan r).tbi.link = .joined ∧ r.spacing = none ∧
      (withPan r).tbi.slots.length < 8 ∧
      (withPan { r with spacing := some 5 }).record? 35 = some { r with spacing := some 5 } := by decide +kernel

/-- The pass of 7.9.1 in progress. -/
theorem witness_pass_end : ∃ p, busy.startPass.lau.pass = some p ∧ (p.groups.map (·.id)).Nodup := by
  refine ⟨_, rfl, ?_⟩
  decide +kernel

theorem witness_status_in_pass :
    busy.startPass.AcceptsFrom 1 3 (envelope 3 1 peerStatus) peerStatus ∧ ¬ busy.startPass.EndsIsolation ∧
      ∃ p, busy.startPass.lau.pass = some p ∧ p.read.get 1 = false ∧ p.own = some busy.bgu.claim :=
  ⟨⟨⟨rfl, by decide, by decide +kernel⟩, by decide, by decide⟩, fun h => absurd h.1 (by decide), _, rfl, rfl, rfl⟩

/-- A coil that has become drivable under pan 20's label, one that has ceased to be, and a record in which each has a fellow. -/
theorem witness_joins_and_leaves :
    let joins : State := { busy with
      prb := { busy.prb with coils := busy.prb.coils.set 5 (probed 1) }
      ptk := { busy.ptk with labels := busy.ptk.labels.set 5 20 } }
    let leaves : State := { busy with prb := { busy.prb with coils := busy.prb.coils.set 0 (probed 0) } }
    joins.drivable 5 = true ∧ joins.ptk.labels.get 5 = 20 ∧
      (joins.followDrivability (some 20) 5).drv.records.map (fun r => r.members.get 5) = [false, false] ∧ (joins.followDrivability none 5).drv.records.map (fun r => r.members.get 5) = [true, false] ∧
      leaves.drivable 0 = false ∧
      (leaves.followDrivability (some 20) 0).drv.records.map (fun r => (r.members.get 0, r.offsetPending)) =
        [(false, some (staggerOffset 2 4)), (false, none)] := by decide +kernel

theorem witness_review : (1600 : Nat) ≤ 3680 := by decide

theorem witness_trip : busy.prt.tripInput = false ∧ busy.prt.state = .armed ∧ busy.tbi.link = .joined ∧
    isolated.prt.tripInput = false ∧ isolated.prt.state = .armed ∧ isolated.tbi.link = .isolated := by decide

theorem witness_hold : let s : State := { busy with prt := { busy.prt with state := .tripped, hold := some 2000 } }
    s.prt.state = .tripped ∧ (s.advance 0).prt.hold = some 2000 := by decide +kernel

theorem witness_gate_supply : busy.prt.gateGood = true ∧
    ({ busy with prt := { busy.prt with gateGood := false } } : State).prt.gateGood = false := by decide

theorem witness_mains_loss : let s : State := { busy with mtu := { busy.mtu with synthRun := 2 } }
    s.mtu.mains = .ok ∧ 2 ≤ s.mtu.synthRun ∧ s.mtu.last + 5 * s.mtu.h / 4 ≤ s.clock + 11500 := by decide

theorem witness_pan_content : (heating 35 11 10 16 .held 2).content.Legal :=
  ⟨by decide, by decide, by decide, fun b h => by simp [heating, PanRecord.content] at h, by decide, by decide, by decide⟩

theorem witness_pan_content_with_box :
    { (heating 35 11 10 16 .held 2).content with box := some ⟨10, 13, 0, 1⟩ }.Legal :=
  ⟨by decide, by decide, by decide, fun b h => by cases h; decide, by decide, by decide, by decide⟩

theorem witness_status_content : State.reset.statusContent.Legal :=
  ⟨by decide, by decide, by decide, by decide, fun l h => by simp [State.statusContent, State.reset, Fqu.reset] at h,
    fun l h => by simp [State.statusContent, State.reset, Fqu.reset] at h, by decide, by decide⟩

/-- Two STATUS contents that differ in the sequence number only. -/
theorem witness_sequence :
    let c := decodeStatus (encodeStatus State.reset.statusContent)
    let d := decodeStatus (encodeStatus { State.reset.statusContent with seq := 9 })
    c.coils = d.coils ∧ c.supply = d.supply ∧ c.claim = d.claim ∧ c.demand = d.demand ∧ c.limit = d.limit ∧
      c.want = d.want ∧ c.conflict = d.conflict ∧ c.protection = d.protection ∧ c.mains = d.mains ∧ c.seq ≠ d.seq := by
  decide +kernel

/-- `busy` with a command in front, for the statements about a step. -/
def stepping : State := { busy with pending := [.gateSupplyFall 0] }

theorem witness_command : (Instr.gateSupplyFall 0).leavesReset = false ∧
    exec (.gateSupplyFall 0) busy = .next (after (.gateSupplyFall 0) busy) := ⟨rfl, rfl⟩

theorem witness_step : step stepping = .next (after (.gateSupplyFall 0) busy) := rfl

theorem witness_claim_kept : stepping.ClaimKept :=
  ⟨by decide, by decide, by decide, by decide, fun p h => by simp [stepping, busy, State.refreshPeriod, Lau.reset] at h⟩

theorem witness_gates_kept : ({ driving with pending := [.gateSupplyFall 0] } : State).GatesKept :=
  ⟨by decide, by decide, by decide, by decide⟩

theorem witness_registry_kept_in_step : stepping.RegistryKept ∧ stepping.LabelsRecorded :=
  ⟨⟨by decide, by decide, by decide, by decide, by decide, by decide⟩, by decide, by decide, by decide⟩

theorem witness_periods_kept : stepping.PeriodsKept := by
  refine ⟨by decide, by decide, ?_, ?_, by decide, by decide, by decide⟩
  · intro c x h
    have : ∀ c, (stepping.fqu.members.get c).all (fun x => decide (853 ≤ x.l0 ∧ x.l0 ≤ 3200 ∧
      rangeLow x.l0 ≤ x.l ∧ x.l ≤ rangeHigh x.l0)) = true := by decide
    simpa [h] using this c
  · intro w h
    have none : stepping.fqu.want = none := by decide
    rw [none] at h
    cases h

theorem witness_counters_kept : stepping.CountersKept :=
  ⟨by decide, by decide, by decide, by decide, by decide, by decide, by decide, by decide⟩

theorem witness_bus_kept : stepping.BusKept :=
  ⟨by decide, by decide, by decide, by decide, fun h => absurd rfl h, fun h => absurd h (by decide)⟩

theorem witness_conflict_lasts :
    let s : State := { busy with
      tbi := { busy.tbi with link := .conflict }
      prt := { busy.prt with state := .locked }
      prb := { busy.prb with coils := busy.prb.coils.set 1 (probed 0).open_ } }
    s.tbi.link = .conflict ∧ s.prt.state = .locked ∧ (s.prb.coils.get 1).opened = true ∧
      (Instr.reportTick 0).leavesReset = false := by decide

end Sys2Proof.Machine
end

/-!
PROOFS. The Chebyshev distance (R4) and the pan tracker's use of it (R102): the values of the distance, what is within
reach, and which record a cluster resumes. `State.resumable` is the library's `List.argmin` over the records within reach;
its ties go to the record that stands first, which in a registry of rising IDs (R88) is the one of lower ID.
-/

namespace Sys2Proof.Machine

/-! ### Distance -/

theorem gap_eq_natAbs (a b : Nat) : gap a b = ((a : Int) - (b : Int)).natAbs := by
  unfold gap
  omega

/-- R4, with the columns and rows of R2 written out. -/
theorem chebyshev_eq_max_gap (i j : Nat) : chebyshev i j = max (gap (i % 16) (j % 16)) (gap (i / 16) (j / 16)) := rfl

@[simp] theorem chebyshev_self (i : Nat) : chebyshev i i = 0 := by
  simp [chebyshev_eq_max_gap, gap_eq_natAbs]

/-- Two coils of the surface, of 16 columns and 4 rows, are at most 15 apart. -/
theorem chebyshev_le_of_surface {i j : Nat} (hi : i < 64) (hj : j < 64) : chebyshev i j ≤ 15 := by
  rw [chebyshev_eq_max_gap, gap_eq_natAbs, gap_eq_natAbs, max_le_iff]
  constructor <;> omega

/-- R3: neighbours differ by one in column or in row, and not in the other. -/
theorem adjacent_iff (i j : Nat) : adjacent i j = true ↔ gap (i % 16) (j % 16) + gap (i / 16) (j / 16) = 1 :=
  beq_iff_eq

theorem chebyshev_of_adjacent {i j : Nat} (h : adjacent i j = true) : chebyshev i j = 1 := by
  have sum : gap (i % 16) (j % 16) + gap (i / 16) (j / 16) = 1 := (adjacent_iff i j).mp h
  rw [chebyshev_eq_max_gap]
  omega

theorem chebyshev_of_diagonal {i j : Nat} (cols : gap (i % 16) (j % 16) = 1) (rows : gap (i / 16) (j / 16) = 1) :
    chebyshev i j = 1 := by
  rw [chebyshev_eq_max_gap, cols, rows, max_self]

/-! ### Records within reach -/

/-- R102: what makes a record resumable by a cluster whose lowest coil is `i`. -/
theorem PanRecord.inReach_iff (i : Nat) (r : PanRecord) :
    r.inReach i = true ↔ r.state = .lifted ∧ r.withdrawn = false ∧ chebyshev r.anchor i ≤ 2 := by
  simp [PanRecord.inReach, and_assoc]

/-- R102: the pan tracker's choice is a least element by distance, the first of those in the registry. -/
theorem State.resumable_eq_argmin (s : State) (i : Nat) :
    s.resumable i = (s.ptk.registry.filter (PanRecord.inReach i)).argmin fun r => chebyshev r.anchor i := by
  unfold State.resumable List.argmin
  congr 1
  funext m r
  cases m <;> rfl

theorem State.resumable_eq_none_iff (s : State) (i : Nat) :
    s.resumable i = none ↔ ∀ r ∈ s.ptk.registry, r.inReach i = false := by
  simp [State.resumable_eq_argmin]

/-! ### Which record is resumed -/

/-- R88: in a list of rising IDs the earlier record has the lower ID. -/
theorem idxOf_le_idxOf_iff_id_le {l : List PanRecord} (rising : (l.map (·.id)).Pairwise (· < ·)) {x y : PanRecord}
    (hx : x ∈ l) (hy : y ∈ l) : l.idxOf x ≤ l.idxOf y ↔ x.id ≤ y.id := by
  have ids_rise : ∀ {a b : PanRecord}, a ∈ l → b ∈ l → l.idxOf a < l.idxOf b → a.id < b.id := by
    intro a b ha hb hab
    simpa using List.pairwise_iff_getElem.mp (List.pairwise_map.mp rising) (l.idxOf a) (l.idxOf b)
      (List.idxOf_lt_length_iff.mpr ha) (List.idxOf_lt_length_iff.mpr hb) hab
  constructor
  · intro h
    rcases h.lt_or_eq with before | same
    · exact (ids_rise hx hy before).le
    · rw [(List.idxOf_inj hx).mp same]
  · intro h
    by_contra after
    exact absurd (ids_rise hy hx (not_le.mp after)) (not_lt.mpr h)

/-- R102: with IDs rising, the record resumed is the one that is least by distance and then by ID. -/
theorem State.resumable_eq_some_iff {s : State} (rising : (s.ptk.registry.map (·.id)).Pairwise (· < ·)) (i : Nat)
    (r : PanRecord) :
    s.resumable i = some r ↔ r ∈ s.ptk.registry ∧ r.inReach i = true ∧
      ∀ x ∈ s.ptk.registry, x.inReach i = true → x = r ∨ chebyshev r.anchor i < chebyshev x.anchor i ∨
        chebyshev r.anchor i = chebyshev x.anchor i ∧ r.id < x.id := by
  have rising' : ((s.ptk.registry.filter (PanRecord.inReach i)).map (·.id)).Pairwise (· < ·) :=
    rising.sublist (List.filter_sublist.map _)
  rw [State.resumable_eq_argmin, List.argmin_eq_some_iff]
  constructor
  · rintro ⟨hr, nearest, first⟩
    refine ⟨(List.mem_filter.mp hr).1, (List.mem_filter.mp hr).2, fun x hx reach => ?_⟩
    have hx' := List.mem_filter.mpr ⟨hx, reach⟩
    rcases (nearest x hx').lt_or_eq with nearer | tie
    · exact .inr (.inl nearer)
    · have lower : r.id ≤ x.id := (idxOf_le_idxOf_iff_id_le rising' hr hx').mp (first x hx' tie.ge)
      rcases lower.lt_or_eq with lower | same
      · exact .inr (.inr ⟨tie, lower⟩)
      · exact .inl (List.inj_on_of_nodup_map (rising'.imp ne_of_lt) hx' hr same.symm)
  · rintro ⟨hr, reach, least⟩
    have hr' := List.mem_filter.mpr ⟨hr, reach⟩
    refine ⟨hr', fun x hx => ?_, fun x hx le => ?_⟩
    · rcases least x (List.mem_filter.mp hx).1 (List.mem_filter.mp hx).2 with rfl | nearer | ⟨tie, -⟩
      · exact le_rfl
      · exact nearer.le
      · exact tie.le
    · refine (idxOf_le_idxOf_iff_id_le rising' hr' hx).mpr ?_
      rcases least x (List.mem_filter.mp hx).1 (List.mem_filter.mp hx).2 with rfl | nearer | ⟨-, lower⟩
      · exact le_rfl
      · exact absurd nearer (not_lt.mpr le)
      · exact lower.le

/-- Settles O52: the distance is R4's, and `State.resumable` is the least record within reach by distance, then ID. -/
theorem chebyshevDistance : Obligations.ChebyshevDistance := by
  refine ⟨fun i j => ?_, chebyshev_self, fun _ _ => chebyshev_le_of_surface, rfl, fun _ _ => chebyshev_of_adjacent,
    fun _ _ => chebyshev_of_diagonal, PanRecord.inReach_iff, State.resumable_eq_none_iff,
    fun _ i r rising => State.resumable_eq_some_iff rising i r⟩
  rw [chebyshev_eq_max_gap, gap_eq_natAbs, gap_eq_natAbs]

end Sys2Proof.Machine

/-!
PROOFS. The debounce of raw coverage (R37), and that the coverage of a coil moves at the close of a probe slot alone. Every
other command but LEAVE_RESET keeps all that the probe unit holds of the coils except their UNFIT marks, which a tracking
pass and the end of a switching period may write (`exec_unmarked`).
-/

namespace Sys2Proof.Machine

/-! ### The debounce (R37) -/

theorem debounce_self (q : Nat) (pending : List Nat) : debounce q pending q = (q, []) := if_pos rfl

/-- R37: a pending value on the other side of `q` starts the count afresh. -/
theorem debounce_of_side_change {q r : Nat} {pending : List Nat} (ne : r ≠ q)
    (other : ∃ x ∈ pending, ¬ (q < x ↔ q < r)) :
    debounce q pending r = (q, [r]) := by
  have mixed : ¬ ∀ x ∈ pending, (q < x ↔ q < r) := fun same => other.elim fun x ⟨hx, differs⟩ => differs (same x hx)
  simp [debounce, ne, mixed]

/-- R37: the third value in a row on one side of `q` makes the median the reported coverage. -/
theorem debounce_third {q x y r : Nat} (ne : r ≠ q) (hx : q < x ↔ q < r) (hy : q < y ↔ q < r) :
    debounce q [x, y] r = (median3 x y r, []) := by
  simp [debounce, ne, hx, hy]

/-- R37: until there are three, a value on the same side waits with those before it. -/
theorem debounce_same_side {q r : Nat} {pending : List Nat} (ne : r ≠ q) (same : ∀ x ∈ pending, q < x ↔ q < r)
    (notTwo : pending.length ≠ 2) : debounce q pending r = (q, pending ++ [r]) := by
  have all : (pending.all fun x => decide (q < x ↔ q < r)) = true := by simpa using same
  simp only [debounce, if_neg ne, if_pos all]
  split
  next a b c three => exact absurd (congrArg List.length three) (by simpa using notTwo)
  next => rfl

/-- R37: all that the debounce of a raw value other than `q` can do. -/
theorem debounce_cases {q r : Nat} (pending : List Nat) (ne : r ≠ q) :
    debounce q pending r = (q, [r]) ∨
      (∀ x ∈ pending, q < x ↔ q < r) ∧
        (pending.length ≠ 2 ∧ debounce q pending r = (q, pending ++ [r]) ∨
          ∃ x y, pending = [x, y] ∧ debounce q pending r = (median3 x y r, [])) := by
  by_cases same : ∀ x ∈ pending, q < x ↔ q < r
  · refine .inr ⟨same, ?_⟩
    by_cases two : pending.length = 2
    · obtain ⟨x, y, rfl⟩ := List.length_eq_two.mp two
      exact .inr ⟨x, y, rfl, debounce_third ne (same x (by simp)) (same y (by simp))⟩
    · exact .inl ⟨two, debounce_same_side ne same two⟩
  · exact .inl (debounce_of_side_change ne (by simpa only [not_forall, exists_prop] using same))

theorem median3_mem (a b c : Nat) : median3 a b c = a ∨ median3 a b c = b ∨ median3 a b c = c := by
  unfold median3; omega

/-- Two of the three values are at or below the median, and two at or above it. -/
theorem median3_middle (a b c : Nat) :
    2 ≤ [a, b, c].countP (· ≤ median3 a b c) ∧ 2 ≤ [a, b, c].countP (median3 a b c ≤ ·) := by
  grind [median3]

/-- R37: the values that wait after a debounce are at most two, on the side of `q` on which the new value is. -/
theorem debounce_pending {q r : Nat} {pending : List Nat} (ne : r ≠ q) (short : pending.length ≤ 2) :
    (debounce q pending r).2.length ≤ 2 ∧ ∀ x ∈ (debounce q pending r).2, q < x ↔ q < r := by
  obtain turned | ⟨same, ⟨notTwo, waits⟩ | ⟨x, y, -, agreed⟩⟩ := debounce_cases pending ne
  · simp [turned]
  · rw [waits]
    refine ⟨?_, fun x hx => ?_⟩
    · rw [List.length_append, List.length_singleton]; omega
    · rcases List.mem_append.mp hx with before | new
      · exact same x before
      · rw [List.mem_singleton.mp new]
  · simp [agreed]

/-- R35, R37: coverage stays within 0..4. -/
theorem debounce_le_four {q r : Nat} {pending : List Nat} (hq : q ≤ 4) (hr : r ≤ 4) (hp : ∀ x ∈ pending, x ≤ 4) :
    (debounce q pending r).1 ≤ 4 := by
  by_cases ne : r = q
  · rw [ne, debounce_self]; exact hq
  obtain turned | ⟨-, ⟨-, waits⟩ | ⟨x, y, rfl, agreed⟩⟩ := debounce_cases pending ne
  · rw [turned]; exact hq
  · rw [waits]; exact hq
  · have hx : x ≤ 4 := hp x (by simp)
    have hy : y ≤ 4 := hp y (by simp)
    rw [agreed]
    rcases median3_mem x y r with m | m | m <;> simp only [m] <;> assumption

/-! ### A coil at the close of its slot -/

theorem rawCoverage_le_four (e n : Nat) : rawCoverage e n ≤ 4 := by
  unfold rawCoverage; split
  · exact min_le_left ..
  · exact Nat.zero_le 4

/-! Baseline, object flag, ring periods and UNFIT mark are kept apart from the coverage and its pending values. -/

@[simp] theorem CoilProbe.trackBaseline_q (t : Straps) (n raw : Nat) (p : CoilProbe) :
    (p.trackBaseline t n raw).q = p.q := by
  unfold CoilProbe.trackBaseline; repeat' split
  all_goals rfl
@[simp] theorem CoilProbe.trackBaseline_pendingRaw (t : Straps) (n raw : Nat) (p : CoilProbe) :
    (p.trackBaseline t n raw).pendingRaw = p.pendingRaw := by
  unfold CoilProbe.trackBaseline; repeat' split
  all_goals rfl
@[simp] theorem CoilProbe.trackObject_q (raw : Nat) (period : Option Nat) (p : CoilProbe) :
    (p.trackObject raw period).q = p.q := by
  unfold CoilProbe.trackObject; repeat' split
  all_goals rfl
@[simp] theorem CoilProbe.trackObject_pendingRaw (raw : Nat) (period : Option Nat) (p : CoilProbe) :
    (p.trackObject raw period).pendingRaw = p.pendingRaw := by
  unfold CoilProbe.trackObject; repeat' split
  all_goals rfl
@[simp] theorem CoilProbe.trackPeriod_q (period : Option Nat) (p : CoilProbe) : (p.trackPeriod period).q = p.q := rfl
@[simp] theorem CoilProbe.trackPeriod_pendingRaw (period : Option Nat) (p : CoilProbe) :
    (p.trackPeriod period).pendingRaw = p.pendingRaw := rfl
@[simp] theorem CoilProbe.trackTb_q (raw : Nat) (period : Option Nat) (p : CoilProbe) : (p.trackTb raw period).q = p.q := by
  unfold CoilProbe.trackTb; split <;> rfl
@[simp] theorem CoilProbe.trackTb_pendingRaw (raw : Nat) (period : Option Nat) (p : CoilProbe) :
    (p.trackTb raw period).pendingRaw = p.pendingRaw := by
  unfold CoilProbe.trackTb; split <;> rfl
@[simp] theorem CoilProbe.clearUnfit_q (before : Condition) (p : CoilProbe) : (p.clearUnfit before).q = p.q := by
  unfold CoilProbe.clearUnfit; split <;> rfl
@[simp] theorem CoilProbe.clearUnfit_pendingRaw (before : Condition) (p : CoilProbe) :
    (p.clearUnfit before).pendingRaw = p.pendingRaw := by
  unfold CoilProbe.clearUnfit; split <;> rfl
@[simp] theorem CoilProbe.trackCoverage_q (raw : Nat) (p : CoilProbe) :
    (p.trackCoverage raw).q = (debounce p.q p.pendingRaw raw).1 := rfl
@[simp] theorem CoilProbe.trackCoverage_pendingRaw (raw : Nat) (p : CoilProbe) :
    (p.trackCoverage raw).pendingRaw = (debounce p.q p.pendingRaw raw).2 := rfl

/-- R39, R43: a probe finds the coil open, or debounces the raw coverage of its ring count. -/
theorem CoilProbe.result_coverage (t : Straps) (r : ProbeReading) (p : CoilProbe) :
    (p.result t r).1 = p.open_ ∨
      ((p.result t r).1.q, (p.result t r).1.pendingRaw) =
        debounce p.q p.pendingRaw (rawCoverage p.e (ringCount r.waves)) := by
  unfold CoilProbe.result
  split
  · exact .inl rfl
  · exact .inr (by simp)

/-- R37, R43: the three things that may happen to the coverage of a coil and to its pending values. -/
def CoverageMoves (p p' : CoilProbe) : Prop :=
  (p'.q = p.q ∧ p'.pendingRaw = p.pendingRaw) ∨
    (∃ raw, raw ≤ 4 ∧ (p'.q, p'.pendingRaw) = debounce p.q p.pendingRaw raw) ∨
    p'.opened = true ∧ p'.q = 0 ∧ p'.pendingRaw = []

theorem CoverageMoves.refl (p : CoilProbe) : CoverageMoves p p := .inl ⟨rfl, rfl⟩

/-- R29, R34: a coil that is not struck, or takes its discard probe, keeps its coverage. -/
theorem CoilProbe.close_coverage (t : Straps) (r : ProbeReading) (p : CoilProbe) : CoverageMoves p (p.close t r).1 := by
  unfold CoilProbe.close
  split
  · split
    · rcases p.result_coverage t r with opened | debounced
      · rw [opened]; exact .inr (.inr ⟨rfl, rfl, rfl⟩)
      · exact .inr (.inl ⟨_, rawCoverage_le_four _ _, debounced⟩)
    · exact .inl ⟨rfl, rfl⟩
  · exact .refl p

/-! ### What keeps every coil's probe results

Nothing but a probe's close writes a coil's probe results; requests for the UNFIT mark (R44) write that mark alone. -/

/-- What the probe unit holds of a coil, the UNFIT mark left out. -/
def CoilProbe.unmarked (p : CoilProbe) : CoilProbe := { p with unfit := false }

/-- What the probe unit holds of the coils, the UNFIT marks left out. -/
def unmarked (coils : Oct CoilProbe) : Oct CoilProbe := coils.map CoilProbe.unmarked

theorem unmarked_eq_iff {a b : Oct CoilProbe} :
    unmarked a = unmarked b ↔ ∀ c, (a.get c).unmarked = (b.get c).unmarked := by
  refine ⟨fun h c => ?_, fun h => Oct.ext_get fun c => by simpa [unmarked] using h c⟩
  simpa [unmarked] using congrArg (fun coils => coils.get c) h

/-- Coils that differ in UNFIT marks alone agree in coverage, pending values and open flag. -/
theorem coverage_of_unmarked {a b : Oct CoilProbe} (h : unmarked a = unmarked b) (c : Fin 8) :
    (a.get c).q = (b.get c).q ∧ (a.get c).pendingRaw = (b.get c).pendingRaw ∧ (a.get c).opened = (b.get c).opened := by
  have coil : (a.get c).unmarked = (b.get c).unmarked := unmarked_eq_iff.mp h c
  exact ⟨(congrArg CoilProbe.q coil :), (congrArg CoilProbe.pendingRaw coil :), (congrArg CoilProbe.opened coil :)⟩

/-- A part of the state that neither time nor the event touches is kept by the command. -/
theorem State.running_keeps {β : Type} (g : State → β) (time : ∀ dt s, g (s.advance dt) = g s) {event : State → State}
    (h : ∀ s, g (event s) = g s) (dt : Nat) (s : State) : g (s.running dt event) = g s := by
  obtain ⟨-, same⟩ | ⟨-, acts⟩ := s.running_cases dt event
  · rw [same]
  · rw [acts, h, time]

/-! Own labels and marks -/

@[simp] theorem State.requestUnfit_unmarked (c : Fin 8) (b : Bool) (s : State) :
    unmarked (s.requestUnfit c b).prb.coils = unmarked s.prb.coils :=
  unmarked_eq_iff.mpr fun d => by rw [State.requestUnfit_coil]; rfl

@[simp] theorem State.setLabel_unmarked (c : Fin 8) (l : Nat) (s : State) :
    unmarked (s.setLabel c l).prb.coils = unmarked s.prb.coils := by
  unfold State.setLabel; split <;> simp

@[simp] theorem State.stripUncovered_unmarked (c : Fin 8) (s : State) :
    unmarked (s.stripUncovered c).prb.coils = unmarked s.prb.coils := by
  simp only [State.stripUncovered]; split <;> simp

@[simp] theorem State.leaveQuiet_coils (s : State) : s.leaveQuiet.prb.coils = s.prb.coils := by
  unfold State.leaveQuiet; split <;> rfl

/-! Own frames and their slots -/

@[simp] theorem renewRefused_prb : ∀ (ps : List Nat) (s : State), (renewRefused ps s).prb = s.prb
  | [], _ => rfl
  | p :: ps, s => by
    simp only [renewRefused]
    split
    · simp
    · rw [renewRefused_prb ps]; simp

@[simp] theorem State.slotFree_prb (s : State) : s.slotFree.prb = s.prb := by
  unfold State.slotFree; split <;> simp

@[simp] theorem State.endPass_prb (s : State) : s.endPass.prb = s.prb := by
  unfold State.endPass; split <;> simp

/-! The tracking pass -/

theorem State.stage1_unmarked (s : State) : unmarked s.stage1.prb.coils = unmarked s.prb.coils := by
  simp only [State.stage1]
  rw [foldl_keeps (fun s => unmarked s.prb.coils) fun p s => by simp,
    eachOfEight_keeps (fun s => unmarked s.prb.coils) fun c s => by split <;> simp,
    eachOfEight_keeps (fun s => unmarked s.prb.coils) fun c s => by simp]

theorem State.mergePan_unmarked (p : Nat) (s : State) : unmarked (s.mergePan p).prb.coils = unmarked s.prb.coils := by
  have relabelled (m : Nat) : unmarked (eachOfEight
      (fun c s => if s.ptk.labels.get c = p then s.setLabel c m else s) s).prb.coils = unmarked s.prb.coils :=
    eachOfEight_keeps (fun s => unmarked s.prb.coils) (fun c s => by split <;> simp) s
  unfold State.mergePan
  repeat' split
  all_goals simp [relabelled]

theorem State.stage2_unmarked (s : State) : unmarked s.stage2.prb.coils = unmarked s.prb.coils :=
  foldl_keeps (fun s => unmarked s.prb.coils) State.mergePan_unmarked _ s

theorem State.stage3_unmarked (s : State) : unmarked s.stage3.1.prb.coils = unmarked s.prb.coils :=
  List.foldlRecOn (motive := fun x : State × List (Fin 8 × Nat) => unmarked x.1.prb.coils = unmarked s.prb.coils)
    _ _ rfl fun x ih _ _ =>
      (foldl_keeps (fun s => unmarked s.prb.coils) (fun c s => State.setLabel_unmarked c 0 s) _ x.1).trans ih

theorem State.propagate_unmarked (stripped : List (Fin 8 × Nat)) (c : Fin 8) (s : State) :
    unmarked (s.propagate stripped c).prb.coils = unmarked s.prb.coils := by
  simp only [State.propagate]
  repeat' split
  all_goals simp

theorem State.sweeps_unmarked (stripped : List (Fin 8 × Nat)) : ∀ (fuel : Nat) (s : State),
    unmarked (s.sweeps stripped fuel).prb.coils = unmarked s.prb.coils
  | 0, _ => rfl
  | fuel + 1, s => by
    have swept : unmarked (eachOfEight (fun c s => s.propagate stripped c) s).prb.coils = unmarked s.prb.coils :=
      eachOfEight_keeps (f := fun c s => s.propagate stripped c) (fun s => unmarked s.prb.coils)
        (State.propagate_unmarked stripped) s
    simp only [State.sweeps]
    split
    · exact swept
    · exact (State.sweeps_unmarked stripped fuel _).trans swept

@[simp] theorem State.labelCluster_unmarked (xs : List Nat) (p : Nat) (s : State) :
    unmarked (s.labelCluster xs p).prb.coils = unmarked s.prb.coils :=
  eachOfEight_keeps (fun s => unmarked s.prb.coils) (fun c s => by split <;> simp) s

@[simp] theorem State.resume_unmarked (xs : List Nat) (r : PanRecord) (s : State) :
    unmarked (s.resume xs r).prb.coils = unmarked s.prb.coils := by
  simp [State.resume]

@[simp] theorem State.createPan_unmarked (xs : List Nat) (i : Nat) (s : State) :
    unmarked (s.createPan xs i).prb.coils = unmarked s.prb.coils := by
  simp only [State.createPan]
  repeat' split
  all_goals simp

theorem State.considerCluster_unmarked (c : Fin 8) (s : State) :
    unmarked (s.considerCluster c).prb.coils = unmarked s.prb.coils := by
  simp only [State.considerCluster]
  repeat' split
  all_goals simp

theorem State.stage5_unmarked (s : State) : unmarked s.stage5.prb.coils = unmarked s.prb.coils := by
  unfold State.stage5
  split
  · exact eachOfEight_keeps (fun s => unmarked s.prb.coils) State.considerCluster_unmarked s
  · rfl

@[simp] theorem State.emptyFootprint_prb (r : PanRecord) (s : State) : (s.emptyFootprint r).prb = s.prb := by
  simp only [State.emptyFootprint]
  repeat' split
  all_goals simp

@[simp] theorem State.updateRecord_prb (p : Nat) (s : State) : (s.updateRecord p).prb = s.prb := by
  unfold State.updateRecord
  repeat' split
  all_goals simp

@[simp] theorem State.stage6_prb (s : State) : s.stage6.prb = s.prb :=
  foldl_keeps (fun s => s.prb) State.updateRecord_prb _ s

@[simp] theorem State.stage7_prb (s : State) : s.stage7.prb = s.prb :=
  foldl_keeps (fun s => s.prb) State.panChange_prb _ s

/-- R96 to R106: a tracking pass writes labels, and of the coils' probe items the UNFIT mark alone. -/
@[simp] theorem State.trackingPass_unmarked (s : State) : unmarked s.trackingPass.prb.coils = unmarked s.prb.coils := by
  simp only [State.trackingPass, State.endTracking_prb, State.stage7_prb, State.stage6_prb]
  rw [State.stage5_unmarked, State.sweeps_unmarked, State.stage3_unmarked, State.stage2_unmarked, State.stage1_unmarked]

/-! Received frames -/

/-- R57, R67: a frame handed on keeps the coils where what it carries keeps them. -/
theorem State.handFrame_coils {act : State → State} (h : ∀ s, (act s).prb.coils = s.prb.coils) (s : State) :
    (s.handFrame act).prb.coils = s.prb.coils := by
  simp only [State.handFrame]
  repeat' split
  all_goals simp [h]

theorem State.fromPanel_coils {act : State → State} (h : ∀ s, (act s).prb.coils = s.prb.coils) (cls : Nat)
    (env : Envelope) (payload : List Byte) (s : State) : (s.fromPanel cls env payload act).prb.coils = s.prb.coils := by
  simp only [State.fromPanel]
  repeat' split
  all_goals simp [State.handFrame_coils h]

theorem State.fromTile_coils {act : Fin 8 → State → State} (h : ∀ src s, (act src s).prb.coils = s.prb.coils) (cls : Nat)
    (env : Envelope) (payload : List Byte) (s : State) : (s.fromTile cls env payload act).prb.coils = s.prb.coils := by
  simp only [State.fromTile]
  repeat' split
  all_goals simp [State.handFrame_coils (h _)]

@[simp] theorem State.allOff_prb (s : State) : s.allOff.prb = s.prb := by
  simp only [State.allOff, State.forceZeroAll_prb]
  rw [foldl_keeps (fun s => s.prb) (State.writeHeldLevel_prb 0)]

@[simp] theorem State.takeBeacon_prb (enable : Bool) (s : State) : (s.takeBeacon enable).prb = s.prb := by
  simp only [State.takeBeacon]; split <;> simp

@[simp] theorem State.contest_prb (c : PanContent) (st : PanState) (src : Fin 8) (r : PanRecord) (s : State) :
    (s.contest c st src r).prb = s.prb := by
  unfold State.contest; repeat' split
  all_goals simp

@[simp] theorem State.takePan_prb (c : PanContent) (src : Fin 8) (s : State) : (s.takePan c src).prb = s.prb := by
  unfold State.takePan; repeat' split
  all_goals simp

/-- R45, R47: a STATUS may restart the quiet timer and end quiet mode; the coils stay. -/
@[simp] theorem State.takeStatus_coils (d : StatusContent) (src : Fin 8) (s : State) :
    (s.takeStatus d src).prb.coils = s.prb.coils := by
  simp only [State.takeStatus, State.refreshPeriod_prb]
  repeat' split
  all_goals simp

/-! Drive -/

@[simp] theorem State.startPeriod_prb (p start : Nat) (s : State) : (s.startPeriod p start).prb = s.prb := by
  unfold State.startPeriod; split <;> rfl

@[simp] theorem State.takeMargin_unmarked (c : Fin 8) (m : Int) (s : State) :
    unmarked (s.takeMargin c m).prb.coils = unmarked s.prb.coils := by
  simp only [State.takeMargin]; repeat' split
  all_goals simp

theorem State.completePeriod_unmarked (margins : Oct Int) (c : Fin 8) (s : State) :
    unmarked (s.completePeriod margins c).prb.coils = unmarked s.prb.coils := by
  simp only [State.completePeriod]; split <;> simp

/-- R146: at the end of a switching period the UNFIT mark is all that may change of a coil's probe items. -/
@[simp] theorem State.nextPeriod_unmarked (margins : Oct Int) (p : Nat) (r : GroupRecord) (s : State) :
    unmarked (s.nextPeriod margins p r).prb.coils = unmarked s.prb.coils := by
  simp only [State.nextPeriod, State.startPeriod_prb]
  exact eachOfEight_keeps (fun s => unmarked s.prb.coils)
    (fun c s => by split <;> simp [State.completePeriod_unmarked]) s

@[simp] theorem State.closeDrive_prb (s : State) : s.closeDrive.prb = s.prb :=
  eachOfEight_keeps (fun s => s.prb) State.endSwitching_prb s

@[simp] theorem State.removeEnding_prb (s : State) : s.removeEnding.prb = s.prb := by
  simp only [State.removeEnding, State.refreshPeriod_prb]
  exact eachOfEight_keeps (fun s => s.prb) (fun c s => by split <;> simp) s

@[simp] theorem State.windowEnd_prb (window : Nat) (s : State) : (s.windowEnd window).prb = s.prb := rfl

@[simp] theorem State.startWaiting_prb (s : State) : s.startWaiting.prb = s.prb := by
  simp only [State.startWaiting]
  split
  · rw [State.refreshPeriod_prb, apply_ite State.prb, ite_self]
    exact eachOfEight_keeps (fun s => s.prb) (fun c s => by split <;> simp) _
  · rfl

/-! Crossings -/

@[simp] theorem State.endHalfCycle_prb (s : State) : s.endHalfCycle.prb = s.prb := by
  simp only [State.endHalfCycle]; repeat' split
  all_goals simp

@[simp] theorem State.mainsChange_prb (was : Mains) (s : State) : (s.mainsChange was).prb = s.prb := by
  unfold State.mainsChange; repeat' split
  all_goals simp

@[simp] theorem State.windowTurn_prb (start : Nat) (s : State) : (s.windowTurn start).prb = s.prb := by
  unfold State.windowTurn; split <;> simp

@[simp] theorem State.crossingConversion_prb (before : Mtu) (s : State) : (s.crossingConversion before).prb = s.prb := by
  unfold State.crossingConversion; split <;> rfl

/-- R28, R30, R46: a crossing begins or discards a probe and touches no coil. -/
@[simp] theorem State.probeCrossing_coils (was : Mains) (s : State) : (s.probeCrossing was).prb.coils = s.prb.coils := by
  simp only [State.probeCrossing, Prb.crossing]; repeat' split
  all_goals rfl

@[simp] theorem State.crossing_coils (mtu' : Mtu) (s : State) : (s.crossing mtu').prb.coils = s.prb.coils := by
  simp [State.crossing]

@[simp] theorem State.leaveArmed_coils (st : Protection) (s : State) : (s.leaveArmed st).prb.coils = s.prb.coils := by
  simp [State.leaveArmed]

/-! ### The close of a slot -/

theorem State.takeReadings_coils (a b : Fin 8) (lower higher : ProbeReading) (s : State) :
    (s.takeReadings a b lower higher).prb.coils =
      (s.prb.coils.set a ((s.prb.coils.get a).close s.straps lower).1).set b
        ((s.prb.coils.get b).close s.straps higher).1 := by
  simp only [State.takeReadings]; split <;> simp

/-- R29: both coils of the pair close their slot; the other six are left alone. -/
theorem State.takeReadings_coverage (a b : Fin 8) (lower higher : ProbeReading) (s : State) (c : Fin 8) :
    CoverageMoves (s.prb.coils.get c) ((s.takeReadings a b lower higher).prb.coils.get c) := by
  rw [State.takeReadings_coils, Oct.get_set, Oct.get_set]
  split
  · next second => subst second; exact CoilProbe.close_coverage _ _ _
  · split
    · next first => subst first; exact CoilProbe.close_coverage _ _ _
    · exact .refl _

@[simp] theorem State.outcome_unmarked (before : State) (c : Fin 8) (s : State) :
    unmarked (State.outcome before c s).prb.coils = unmarked s.prb.coils := by
  unfold State.outcome; split <;> simp

/-- A change of UNFIT marks after a move of coverage leaves it such a move. -/
theorem CoverageMoves.of_unmarked {p : CoilProbe} {a b : Oct CoilProbe} {c : Fin 8} (moves : CoverageMoves p (a.get c))
    (h : unmarked b = unmarked a) : CoverageMoves p (b.get c) := by
  obtain ⟨q, pendingRaw, opened⟩ := coverage_of_unmarked h c
  unfold CoverageMoves
  rw [q, pendingRaw, opened]
  exact moves

/-- R37, R43, R48: PROBE_SLOT_CLOSE moves the coverage of a coil in the three ways, and what it hands on moves it no more. -/
theorem execProbeSlotClose_coverage {dt : Nat} {lower higher : ProbeReading} {s t : State}
    (h : execProbeSlotClose dt lower higher s = .next t) (c : Fin 8) :
    CoverageMoves (s.prb.coils.get c) (t.prb.coils.get c) := by
  simp only [execProbeSlotClose, Host.Outcome.next.injEq] at h
  subst h
  obtain ⟨-, same⟩ | ⟨-, acts⟩ := State.running_cases dt _ s
  · rw [same]; exact .refl _
  · rw [acts]
    split
    · next f _ =>
      split
      · have read := (s.advance dt).takeReadings_coverage (pairCoils f.pair).1 (pairCoils f.pair).2 lower higher c
        refine read.of_unmarked ?_
        rw [State.joinCheck_prb]
        split <;> simp
      · exact .refl _
    · exact .refl _

/-! ### Every other command -/

/-- The time that a command brings leaves the coils as they are. -/
theorem State.running_coils {event : State → State} (h : ∀ s, (event s).prb.coils = s.prb.coils) (dt : Nat) (s : State) :
    unmarked (s.running dt event).prb.coils = unmarked s.prb.coils :=
  congrArg unmarked (State.running_keeps (fun s => s.prb.coils) State.advance_coils h dt s)

theorem State.running_unmarked {event : State → State} (h : ∀ s, unmarked (event s).prb.coils = unmarked s.prb.coils)
    (dt : Nat) (s : State) : unmarked (s.running dt event).prb.coils = unmarked s.prb.coils :=
  State.running_keeps (fun s => unmarked s.prb.coils) (fun dt s => by rw [State.advance_coils]) h dt s

/-- Outside a probe's close and reset no command touches a coil's probe items, its UNFIT mark apart. The two commands that
may write the mark stand first, then the received frames, then those that run through indices or lists. -/
theorem exec_unmarked {i : Instr} {s t : State} (stays : i.leavesReset = false)
    (noProbe : ∀ dt lower higher, i ≠ .probeSlotClose dt lower higher) (h : exec i s = .next t) :
    unmarked t.prb.coils = unmarked s.prb.coils := by
  cases i with
  | leaveReset => simp [Instr.leavesReset] at stays
  | probeSlotClose dt lower higher => exact absurd rfl (noProbe dt lower higher)
  | resetEntry => cases h; rfl
  | brownOutInReset => cases h; split <;> rfl
  | trackingPass =>
    cases h
    refine State.running_unmarked (fun s => ?_) _ s
    dsimp only
    split <;> simp
  | switchingPeriodStart =>
    cases h
    refine State.running_unmarked (fun s => ?_) _ s
    dsimp only
    repeat' split
    all_goals simp
  | allOff => cases h; exact State.running_coils (State.fromPanel_coils (by simp) _ _ _) _ s
  | level => cases h; exact State.running_coils (State.fromPanel_coils (by simp) _ _ _) _ s
  | beacon => cases h; exact State.running_coils (State.fromPanel_coils (by simp) _ _ _) _ s
  | pan => cases h; exact State.running_coils (State.fromTile_coils (by simp) _ _ _) _ s
  | status => cases h; exact State.running_coils (State.fromTile_coils (by simp) _ _ _) _ s
  | panelAgeExpiry =>
    cases h
    refine State.running_coils (fun s => ?_) _ s
    split
    · simp only [State.forceZeroAll_prb]
      rw [foldl_keeps (fun s => s.prb) (State.writeHeldLevel_prb 0)]
    · rfl
  | driveSpanOpen =>
    cases h
    refine State.running_coils (fun s => ?_) _ s
    split
    · exact foldl_keeps (f := fun p s => s.startPeriod p s.count) (fun s => s.prb.coils) (fun p s => by simp) _ _
    · rfl
  | temperatureConversionComplete =>
    cases h
    refine State.running_coils (fun s => ?_) _ s
    split
    · split
      · dsimp only
        rw [eachOfEight_keeps (fun s => s.prb.coils) fun c s => by rw [State.setBand_prb]]
      · rfl
    · rfl
  | allocationPassEnd => cases h; exact State.running_coils (by simp) _ s
  | zcEdge | driveSpanClose | transmitSuccess =>
    cases h
    refine State.running_coils (fun s => ?_) _ s
    dsimp only
    repeat' split
    all_goals simp
  | _ =>
    cases h
    refine State.running_coils (fun s => ?_) _ s
    repeat' split
    all_goals simp

/-! ### The STATUS -/

/-- R83: pending values are in no STATUS. -/
theorem State.statusContent_pendingRaw (s : State) (c : Fin 8) (pending : List Nat) :
    State.statusContent { s with prb := { s.prb with
      coils := s.prb.coils.set c { s.prb.coils.get c with pendingRaw := pending } } } = s.statusContent := by
  have entry (d : Fin 8) : State.ownEntry { s with prb := { s.prb with
      coils := s.prb.coils.set c { s.prb.coils.get c with pendingRaw := pending } } } d = s.ownEntry d := by
    by_cases own : d = c
    · subst own; simp [State.ownEntry, CoilProbe.condition]
    · simp [State.ownEntry, own]
  simp only [State.statusContent, entry]
  rfl

/-! ### The obligation -/

/-- R37: every command but LEAVE_RESET moves the coverage of a coil in the three ways or not at all. -/
theorem exec_coverage {i : Instr} {s t : State} (stays : i.leavesReset = false) (h : exec i s = .next t) (c : Fin 8) :
    CoverageMoves (s.prb.coils.get c) (t.prb.coils.get c) := by
  by_cases probe : ∃ dt lower higher, i = .probeSlotClose dt lower higher
  · obtain ⟨dt, lower, higher, rfl⟩ := probe
    exact execProbeSlotClose_coverage h c
  · refine (CoverageMoves.refl _).of_unmarked (exec_unmarked stays (fun dt lower higher same => ?_) h)
    exact probe ⟨dt, lower, higher, same⟩

/-- Settles O17: the debounce by its cases, and the commands by what a slot's close and every other of them does. -/
theorem coverageMovesByThreeProbes : Obligations.CoverageMovesByThreeProbes := by
  refine ⟨debounce_self, fun q pending r ne few same => debounce_same_side ne same few.ne,
    fun q pending r => debounce_of_side_change, fun q x y r ne hx hy sideX sideY => ?_,
    fun q pending r => debounce_pending, fun q pending r => debounce_le_four, fun _ => rfl,
    fun i c s t stays h => exec_coverage stays h c, State.statusContent_pendingRaw⟩
  have value := median3_mem x y r
  refine ⟨median3 x y r, debounce_third ne sideX sideY, value, ?_, ?_, median3_middle x y r⟩
  · rcases value with m | m | m <;> rw [m]
    exacts [sideX, sideY]
  · rcases value with m | m | m <;> rw [m] <;> assumption

end Sys2Proof.Machine

/-!
PROOFS. The budget review (R132 to R135): its branches with the signed headroom read as a comparison of what is drawn with
the budget, then the new claim of each branch, and the bounds that hold whichever branch was taken.
-/

namespace Sys2Proof.Machine

/-! ### The quantities of the review (R132) -/

/-- The own claim and those of the peers together: the headroom is the budget less this. -/
def drawnPower (c : Nat) (peers : List (Nat × Nat)) : Nat := c + (peers.map (·.1)).sum

/-- The fair share F of the budget. -/
def fairShare (b q : Nat) (peers : List (Nat × Nat)) : Nat :=
  b / ((if 0 < q then 1 else 0) + (peers.filter fun p => 0 < p.2).length)

/-- R133: what a station takes off its claim, its part of the excess rounded up. -/
def excessShare (b c : Nat) (peers : List (Nat × Nat)) : Nat :=
  divUp (drawnPower c peers - b) ((if 0 < c then 1 else 0) + (peers.filter fun p => 0 < p.1).length)

/-- R134: a peer is starved and the own claim exceeds the fair share. -/
abbrev Yields (b c q : Nat) (peers : List (Nat × Nat)) : Prop :=
  (∃ p ∈ peers, p.1 < p.2) ∧ fairShare b q peers < c

/-- R133 to R135: the provisional claim C' before the final clamps. -/
def provisionalClaim (b c q : Nat) (peers : List (Nat × Nat)) : Nat :=
  if b < drawnPower c peers then c - excessShare b c peers
  else if Yields b c q peers then max (fairShare b q peers) (c - 200)
  else c + min 200 (b - drawnPower c peers)

/-- The model's review, whose headroom is an integer, is the provisional claim clamped to demand and budget (R135). -/
theorem review_eq_clamped (b c q : Nat) (peers : List (Nat × Nat)) :
    review b c q peers = min b (min q (provisionalClaim b c q peers)) := by
  have overdrawn : (b : Int) - c - (peers.map (·.1)).sum < 0 ↔ b < drawnPower c peers := by
    unfold drawnPower; omega
  have excess : (-((b : Int) - c - (peers.map (·.1)).sum)).toNat = drawnPower c peers - b := by
    unfold drawnPower; omega
  have headroom : ((b : Int) - c - (peers.map (·.1)).sum).toNat = b - drawnPower c peers := by
    unfold drawnPower; omega
  simp only [review, overdrawn, excess, headroom, bit, Bool.and_eq_true, List.any_eq_true, decide_eq_true_eq]
  rfl

/-! ### The branches -/

section
variable {b c q : Nat} {peers : List (Nat × Nat)}

theorem provisionalClaim_of_overdrawn (overdrawn : b < drawnPower c peers) :
    provisionalClaim b c q peers = c - excessShare b c peers := if_pos overdrawn

theorem provisionalClaim_of_yields (within : drawnPower c peers ≤ b) (yields : Yields b c q peers) :
    provisionalClaim b c q peers = max (fairShare b q peers) (c - 200) := by
  rw [provisionalClaim, if_neg within.not_gt, if_pos yields]

theorem provisionalClaim_of_raise (within : drawnPower c peers ≤ b) (keeps : ¬ Yields b c q peers) :
    provisionalClaim b c q peers = c + min 200 (b - drawnPower c peers) := by
  rw [provisionalClaim, if_neg within.not_gt, if_neg keeps]

/-- Only the raise branch gives more than the claim held, and no more than 200 W and the headroom. -/
theorem provisionalClaim_le (b c q : Nat) (peers : List (Nat × Nat)) :
    provisionalClaim b c q peers ≤ c + min 200 (b - drawnPower c peers) := by
  rcases lt_or_ge b (drawnPower c peers) with overdrawn | within
  · rw [provisionalClaim_of_overdrawn overdrawn]
    omega
  · by_cases yields : Yields b c q peers
    · have above : fairShare b q peers < c := yields.2
      rw [provisionalClaim_of_yields within yields]
      omega
    · exact (provisionalClaim_of_raise within yields).le

/-- A claim within the budget (R130) stays within it in every branch, so R135's clamp to the budget is without effect. -/
theorem review_eq_min_demand (held : c ≤ b) : review b c q peers = min q (provisionalClaim b c q peers) := by
  have raise := provisionalClaim_le b c q peers
  have own : c ≤ drawnPower c peers := Nat.le_add_right _ _
  rw [review_eq_clamped]
  omega

end

/-! ### The obligation -/

/-- Settles O49: the clamp to the budget drops out (`review_eq_min_demand`), and then each branch is read off. -/
theorem reviewSharesTheBudget : Obligations.ReviewSharesTheBudget := by
  intro b c q peers held drawn demanding drawing starved
  have drawn_eq : drawn = drawnPower c peers := rfl
  have drawn_def : drawnPower c peers = c + (peers.map (·.1)).sum := rfl
  have raise := provisionalClaim_le b c q peers
  rw [review_eq_min_demand held, drawn_eq]
  refine ⟨min_le_left _ _, ?budget, ?step, fun within => ?headroom, fun overdrawn => ?overshoot,
    fun within hungry above => ?yield, fun within keeps => ?raise⟩
  case overshoot => rw [provisionalClaim_of_overdrawn overdrawn]; rfl
  case yield => rw [provisionalClaim_of_yields within ⟨hungry, above⟩]; rfl
  case raise => rw [provisionalClaim_of_raise within keeps]
  all_goals omega

end Sys2Proof.Machine
